-- ==== Sys2Proof/Word.lean ====
section
/-! DEFINITION. The words of the framer: bytes, binary32 patterns, complex samples, and the records attached to stream
positions (spec/30_encoding.md R72 to R74). Indices, counts and configuration values are natural numbers (R13, R78). -/

namespace Sys2Proof

/-- One byte, used only by the byte image of a sample (R44). -/
abbrev Byte := BitVec 8

/-- One IEEE 754 binary32 bit pattern (R74). -/
abbrev B32 := BitVec 32

/-- A pair (re, im) of binary32 values: one complex sample of the default numerics (R11, R74, D4). -/
structure Complex32 where
  re : B32
  im : B32
deriving DecidableEq, Repr, Inhabited

/-- One complex sample, the unit of every data space (R39, R44). Its type is a parameter (R11, D4, U7): `b32` holds the values
of the default type, and `other` numbers the values of whatever other type an instance has (log 23). -/
inductive Sample where
  | b32 (z : Complex32)
  | other (code : Nat)
deriving DecidableEq, Repr, Inhabited

/-- The kinds of annotation (R27, R73): every code but the two named is `other`. -/
inductive Kind where
  | burstStart
  | burstBoundary
  | other
deriving DecidableEq, Repr, Inhabited

/-- An annotation: on the input side `index` is relative to the window (R27); on the output side it is the position in
the stream (R30). -/
structure TagRec where
  index : Nat
  kind  : Kind
  value : Nat
deriving DecidableEq, Repr, Inhabited

end Sys2Proof
end

