-- ==== Sys2Proof/Config.lean ====
section
/-! DEFINITION. What an implementation fixes (spec/00_scope.md R11) and the free values the spec leaves unspecified. The
open parameters are plain data held in the state, read-only, so that every statement holds for each of their values;
`Params.default` is the spec's default where it gives one. -/

namespace Sys2Proof

/-- How two samples are averaged (R11, R128, D5: OPEN, U8). -/
inductive Average where
  /-- The default formula of R128 on pairs of binary32. -/
  | halfOfSum
  /-- Any other total function: its values on the pairs listed, and off the list the `rest`-th function without a body
  (`Config.unlistedAverage`, log 23). -/
  | given (rows : List ((Sample × Sample) × Sample)) (rest : Nat)
deriving DecidableEq, Repr, Inhabited

/-- The numerics (R8, R11, D4): the two operations on samples that a step uses. -/
structure Numerics where
  /-- `zero` (D6). -/
  zero : Sample
  /-- `avg` (D5). -/
  avg  : Average
deriving DecidableEq, Repr, Inhabited

/-- The spec's default numerics: `zero = (+0.0, +0.0)`, `avg` by R128 (R11, D4 to D6). -/
def Numerics.default : Numerics := { zero := .b32 { re := 0, im := 0 }, avg := .halfOfSum }

/-- The open parameters of R11 but the ROM, which is `State.rom`. -/
structure Params where
  /-- `W`, the width of every index, count and configuration value (D3). -/
  wordBits : Nat
  /-- `WIN_TAP_PRE`, the ROM index of the preamble seam's partner (D10). -/
  tapPre : Nat
  /-- `WIN_TAP_SYM`, the offset in the previous span of a symbol seam's partner (D9). -/
  tapSym : Nat
  /-- `IN_CAP`, the largest `in_len` the host ever offers (D27). -/
  inCap : Nat
  /-- `OUT_CAP`, the largest `out_cap` the host ever offers (D27). -/
  outCap : Nat
  /-- `zero` and `avg` (D4 to D6). -/
  numerics : Numerics
deriving DecidableEq, Repr, Inhabited

/-- The admitted parameters: the taps inside the ROM and inside `1..79` (R129, D9, D10), the windows below `2^W` (R26, R29). -/
abbrev Params.Ok (p : Params) : Prop :=
  p.tapPre < 320 ∧ 1 ≤ p.tapSym ∧ p.tapSym ≤ 79 ∧ p.inCap < 2 ^ p.wordBits ∧ p.outCap < 2 ^ p.wordBits

/-- The spec's defaults (R11): `W = 64` (log 3), `WIN_TAP_PRE = 256`, `WIN_TAP_SYM = 16` (log 7), the default numerics (log 4).
`IN_CAP` and `OUT_CAP` are OPEN; they are set to the largest window `W` bits can count (DESIGN CHOICE, safe, log 8). -/
def Params.default : Params :=
  { wordBits := 64, tapPre := 256, tapSym := 16, inCap := 2 ^ 64 - 1, outCap := 2 ^ 64 - 1, numerics := .default }

/-- Entry `i` of the preamble table (R11 `PRE`, R111, D7): OPEN, so a constant without a body (log 6); a pair
of binary32, since the state after reset has the default numerics. -/
opaque Config.preambleEntry (i : Nat) : Complex32

/-- A table of 320 entries from its entries. -/
def tableOf (f : Nat → Sample) : Vector Sample 320 := ⟨⟨(List.range 320).map f⟩, by simp⟩

/-- The preamble table (R109, R111). -/
def Config.preamble : Vector Sample 320 := tableOf fun i => .b32 (Config.preambleEntry i)

/-- What the `d`-th output window holds in its cell `i` where nothing has been written (R29, R35, R105, D11): free
(log 9). -/
opaque Config.freeCell (d i : Nat) : Sample

/-- How large a window the host offers the `d`-th time it chooses one unasked (R37, R60): free (log 10). -/
opaque Config.freeCap (d : Nat) : Nat

/-- The average of two samples that an instance's list does not give: free, and another function for each `rest` (R128: a total
function of the operands, log 23). -/
opaque Config.unlistedAverage (rest : Nat) (a b : Sample) : Sample

/-- What the formula of R128 gives where an operand is no pair of binary32: free (log 23). -/
opaque Config.foreignAverage (a b : Sample) : Sample

/-- The bits from which the NaN that `add32 a b` gives takes its sign and payload (R128, U8): free (log 5). -/
opaque Config.freeAddNan (a b : B32) : B32

/-- The bits from which the NaN that `mul32 a b` gives takes its sign and payload (R128, U8): free (log 5). -/
opaque Config.freeMulNan (a b : B32) : B32

end Sys2Proof
end

