-- ==== Sys2Proof/Syntax.lean ====
section
/-! DEFINITION. The operations and micro-operations of the framer: one constructor per row of spec/opcode_table.json, in the
table's order. A pattern's don't-care bits are the constructor's operands, named as the table names the bits. -/

namespace Sys2Proof

/-- The three formats an operation's word can have (spec/30_encoding.md R65): `STATUS`, `COND` and `PHASE`. -/
inductive Format where
  | status
  | cond
  | phase
deriving DecidableEq, Repr, Inhabited

/-- The rows of the opcode table. -/
inductive Instr where
  /-- `NOP_TERM`, `STATUS = x1` (R91): `FIN` set. -/
  | nopTermFin (flt : Bool)
  /-- `NOP_TERM`, `STATUS = 1x` (R91): `FLT` set. -/
  | nopTermFlt (fin : Bool)
  /-- `IDLE`, `COND = 000000` (R92). -/
  | idle
  /-- `FINISH`, `COND = 001000` (R93). -/
  | finish
  /-- `FAULT`, `COND = 10x000` (R94). -/
  | fault (e : Bool)
  /-- `WAIT`, `COND = 11x0x0`, input short (R95). -/
  | waitIn (e o : Bool)
  /-- `WAIT`, `COND = 11x10x`, output short (R95). -/
  | waitOut (e r : Bool)
  /-- `EMIT`, `COND = 11011x`, no end-of-data (R96). -/
  | emit (r : Bool)
  /-- `EMIT`, `COND = 111110`, end-of-data with another `64*L` samples left (R96). -/
  | emitEod
  /-- `EMIT_FIN`, `COND = 111111` (R97). -/
  | emitFin
  /-- `PADF`, `PHASE = 0` (R103). -/
  | padf
  /-- `PRE`, `PHASE = 1` (R114). -/
  | pre
  /-- `CPSYM`, `PHASE = 2` (R117). -/
  | cpsym
  /-- `WIN0`, `PHASE = 3` (R123). -/
  | win0
  /-- `WINK`, `PHASE = 4` (R124). -/
  | wink
  /-- `PADT`, `PHASE = 5` (R104). -/
  | padt
  /-- `CONSUME`, `PHASE = 6` (R132). -/
  | consume
  /-- `TAGOUT`, `PHASE = 7` (R134). -/
  | tagout
  /-- `PRODUCE`, `PHASE = 8` (R133). -/
  | produce
  /-- `EODCHK`, `PHASE = 9` (R135). -/
  | eodchk
deriving DecidableEq, Repr, Inhabited

end Sys2Proof
end

