-- ==== Sys2Proof/WellFormed.lean ====
section
/-! DEFINITION. Which instructions are well formed. The one check: the two rows of `NOP_TERM` overlap at `STATUS = 11`, a
value no reachable state holds (spec/10_state.md R38); the first row of the table takes it (DESIGN CHOICE, log 14). -/

namespace Sys2Proof

/-- Every operation is well formed but `NOP_TERM` by `FLT` with `FIN` set as well, whose word the row for `FIN` takes. -/
def Instr.wellFormed : Instr → Bool
  | .nopTermFlt fin => !fin
  | .nopTermFin _ | .idle | .finish | .fault _ | .waitIn _ _ | .waitOut _ _ | .emit _ | .emitEod | .emitFin
  | .padf | .pre | .cpsym | .win0 | .wink | .padt | .consume | .tagout | .produce | .eodchk => true

end Sys2Proof
end

