-- ==== Sys2Proof/Decode.lean ====
section
/-! DEFINITION. Words to operations and back (spec/30_encoding.md R65 to R75). Three formats share no word space of their
own: a word is read in the format the step reads it in. Reserved words are rejected by name. -/

namespace Sys2Proof

/-- Why a word is no operation. -/
inductive Reject where
  /-- A word with a bit above the format's width (R65: there is one length of each). -/
  | tooWide
  /-- `STATUS = 00`: state `RUN`, where `COND` is to be computed (R89). -/
  | statusRun
  /-- A `COND` word that R66 never produces (R69). -/
  | condNotProduced
  /-- `PHASE` 10 to 15: reserved, never taken (R71, 93_implementation_defined.md U16). -/
  | phaseReserved
deriving DecidableEq, Repr, Inhabited

/-- The condition word `COND = M Z E I O R`, bit 5 to bit 0 (R66). -/
structure Cond where
  m : Bool
  z : Bool
  e : Bool
  i : Bool
  o : Bool
  r : Bool
deriving DecidableEq, Repr, Inhabited

/-- `COND[5:0]` with `M` in bit 5 (R66). -/
def Cond.word (c : Cond) : BitVec 6 :=
  BitVec.ofBool c.m ++ BitVec.ofBool c.z ++ BitVec.ofBool c.e ++ BitVec.ofBool c.i ++ BitVec.ofBool c.o ++ BitVec.ofBool c.r

/-- The six bits of a word, bit 5 first. -/
def Cond.ofWord (w : BitVec 6) : Cond :=
  { m := w.getLsbD 5, z := w.getLsbD 4, e := w.getLsbD 3, i := w.getLsbD 2, o := w.getLsbD 1, r := w.getLsbD 0 }

/-- `STATUS` selects `NOP_TERM` when a bit is set (R69, R91); with both set the table's first row is taken (log 14). -/
def decodeStatus (w : BitVec 2) : Except Reject Instr :=
  match w.getLsbD 1, w.getLsbD 0 with
  | flt, true => .ok (.nopTermFin flt)
  | true, false => .ok (.nopTermFlt false)
  | false, false => .error .statusRun

/-- The operation map of R69. -/
def decodeCond (w : BitVec 6) : Except Reject Instr :=
  match Cond.ofWord w with
  | ⟨false, false, false, false, false, false⟩ => .ok .idle
  | ⟨false, false, true, false, false, false⟩ => .ok .finish
  | ⟨true, false, e, false, false, false⟩ => .ok (.fault e)
  | ⟨true, true, e, false, o, false⟩ => .ok (.waitIn e o)
  | ⟨true, true, e, true, false, r⟩ => .ok (.waitOut e r)
  | ⟨true, true, false, true, true, r⟩ => .ok (.emit r)
  | ⟨true, true, true, true, true, false⟩ => .ok .emitEod
  | ⟨true, true, true, true, true, true⟩ => .ok .emitFin
  | ⟨false, true, _, _, _, _⟩ | ⟨false, _, _, true, _, _⟩ | ⟨false, _, _, _, true, _⟩ | ⟨false, _, _, _, _, true⟩
  | ⟨true, false, _, true, _, _⟩ | ⟨true, false, _, _, true, _⟩ | ⟨true, false, _, _, _, true⟩
  | ⟨true, true, _, false, _, true⟩ => .error .condNotProduced

/-- The phase codes of R71. -/
def decodePhase (w : BitVec 4) : Except Reject Instr :=
  match w.toNat with
  | 0 => .ok .padf
  | 1 => .ok .pre
  | 2 => .ok .cpsym
  | 3 => .ok .win0
  | 4 => .ok .wink
  | 5 => .ok .padt
  | 6 => .ok .consume
  | 7 => .ok .tagout
  | 8 => .ok .produce
  | 9 => .ok .eodchk
  | _ => .error .phaseReserved

/-- The width in bits of each format (R65). -/
def Format.width : Format → Nat
  | .status => 2
  | .cond => 6
  | .phase => 4

/-- What the word `w` is in a given format: total, rejecting by name. -/
def decodeWord (f : Format) (w : Nat) : Except Reject Instr :=
  if w < 2 ^ f.width then
    match f with
    | .status => decodeStatus (BitVec.ofNat 2 w)
    | .cond => decodeCond (BitVec.ofNat 6 w)
    | .phase => decodePhase (BitVec.ofNat 4 w)
  else .error .tooWide

/-- The format in which a word of `nbits` bits is read. Where only whole bytes are known the three formats overlap in the
words 0, 1, 2, 3 and 8 (the spec gives no tag that would tell them apart): the words an invocation computes are taken first
(`IDLE`, `NOP_TERM`, `FINISH`), and 3 and the other words below 16 are phases (DESIGN CHOICE, log 13). -/
def formatOf (nbits w : Nat) : Format :=
  if nbits ≤ 2 then .status
  else if nbits ≤ 4 then .phase
  else if nbits ≤ 6 then .cond
  else if w = 1 ∨ w = 2 then .status
  else if w = 0 ∨ w = 8 ∨ 16 ≤ w then .cond
  else .phase

/-- The decoder on a word of the opcode table (R69, R71). -/
def decodeTableWord (nbits w : Nat) : Option Instr :=
  match decodeWord (formatOf nbits w) w with
  | .ok i => some i
  | .error _ => none

/-- The decoder on one byte: a word with zeros above it. -/
def decodeByte (b : Byte) : Option Instr :=
  decodeTableWord 8 b.toNat

/-- The `COND` word of an operation's pattern with its don't-care bits filled in. -/
def condBits (m z e i o r : Bool) : Format × Nat :=
  (.cond, (Cond.word ⟨m, z, e, i, o, r⟩).toNat)

/-- The `STATUS` word with its two bits (R20). -/
def statusBits (flt fin : Bool) : Format × Nat :=
  (.status, (BitVec.ofBool flt ++ BitVec.ofBool fin).toNat)

/-- The word of an instruction, from the patterns of R69 and the codes of R71. -/
def encode : Instr → Format × Nat
  | .nopTermFin flt => statusBits flt true
  | .nopTermFlt fin => statusBits true fin
  | .idle => condBits false false false false false false
  | .finish => condBits false false true false false false
  | .fault e => condBits true false e false false false
  | .waitIn e o => condBits true true e false o false
  | .waitOut e r => condBits true true e true false r
  | .emit r => condBits true true false true true r
  | .emitEod => condBits true true true true true false
  | .emitFin => condBits true true true true true true
  | .padf => (.phase, 0)
  | .pre => (.phase, 1)
  | .cpsym => (.phase, 2)
  | .win0 => (.phase, 3)
  | .wink => (.phase, 4)
  | .padt => (.phase, 5)
  | .consume => (.phase, 6)
  | .tagout => (.phase, 7)
  | .produce => (.phase, 8)
  | .eodchk => (.phase, 9)

/-! The formats of the records that cross the interface. -/

/-- The kind codes of R73; a record of kind `other` is written with code 0 (DESIGN CHOICE, log 21). -/
def Kind.code : Kind → Nat
  | .burstStart => 1
  | .burstBoundary => 2
  | .other => 0

/-- Every code but 1 and 2 is `OTHER` (R73). -/
def Kind.ofCode (c : Nat) : Kind :=
  if c = 1 then .burstStart else if c = 2 then .burstBoundary else .other

/-- `TAGREC`, `2*W + 8` bits, `index` least significant, then `value`, then `kind` (R72). -/
def packTag (W : Nat) (t : TagRec) : Nat :=
  t.index + 2 ^ W * (t.value + 2 ^ W * t.kind.code)

/-- The record in a `TAGREC` word; none where a bit lies above the `2*W + 8` (R72). -/
def unpackTag (W n : Nat) : Option TagRec :=
  if n < 2 ^ (2 * W + 8) then
    some { index := n % 2 ^ W, value := n / 2 ^ W % 2 ^ W, kind := Kind.ofCode (n / 2 ^ W / 2 ^ W) }
  else none

/-- `CFGWORD`, `2*W` bits, `pad_front` least significant (R75). -/
def packCfg (W padFront padTail : Nat) : Nat :=
  padFront + 2 ^ W * padTail

/-- `pad_front` and `pad_tail` of a `CFGWORD`; none where a bit lies above the `2*W` (R75). -/
def unpackCfg (W n : Nat) : Option (Nat × Nat) :=
  if n < 2 ^ (2 * W) then some (n % 2 ^ W, n / 2 ^ W) else none

/-- `SAMPLEWORD`, for the default numerics: the real part in bits 31 to 0, the imaginary part in bits 63 to 32 (R74). -/
def packSample (s : Complex32) : BitVec 64 :=
  s.im ++ s.re

/-- The sample in a `SAMPLEWORD` (R74). -/
def unpackSample (w : BitVec 64) : Complex32 :=
  { re := w.extractLsb' 0 32, im := w.extractLsb' 32 32 }

/-- The byte image of a sample of the default numerics: eight bytes, the real part first, each part little-endian (R44, D20). -/
def sampleBytes (s : Complex32) : List Byte :=
  (List.range 8).map fun j => (packSample s).extractLsb' (8 * j) 8

/-- The sample in eight bytes (R44, D20); none for another number of bytes. -/
def sampleOfBytes : List Byte → Option Complex32
  | [b0, b1, b2, b3, b4, b5, b6, b7] => some (unpackSample (b7 ++ b6 ++ b5 ++ b4 ++ b3 ++ b2 ++ b1 ++ b0))
  | _ => none

end Sys2Proof
end

