-- ==== Sys2Proof/Machine/State.lean ====
section
/-! DEFINITION. The state of the framer and of the host it sees (spec/10_state.md R15 to R38), as plain data, and the state
right after construction. `Params`, the ROM and the configuration are read-only; `job`, `agenda` and `draws` are the model's
own fields (log 1, 2, 9, 10). -/

namespace Sys2Proof.Machine

/-- The spaces of samples (spec/20_memory.md R39). -/
inductive Space where
  | inp
  | rom
  | out
deriving DecidableEq, Repr, Inhabited

/-- The model's stops that are no behaviour of the hardware. MARKER_MISALIGNED is not among them: the framer goes on, in the
state `FAULTED` (R94). -/
inductive Fault where
  /-- An access outside a space (R45: "a model may make it a fault that no run reaches", log 17). Raised by the reads and writes of
  Machine/Ops.lean. Safe. -/
  | outsideSpace (space : Space)
deriving DecidableEq, Repr, Inhabited

/-- The reasons a step has no meaning. -/
inductive Refusal where
  /-- An instruction whose arm in exec has no meaning yet. Safe. -/
  | notModelled (mnemonic : String)
  /-- The selected marker carries `L = 0` (R81, log 16). Raised by an invocation and by an emission. Safe. -/
  | countZero
  /-- A value of the burst does not fit `W` bits (R12, R82, log 16). Raised by an invocation and by an emission. Safe. -/
  | countTooLarge
  /-- A word that is no operation (R69, R71, U16). Raised by the selection of the next operation. Safe. -/
  | reservedWord (reason : Reject)
  /-- `FAULT`, `EMIT` or `EMIT_FIN` where no marker is selected, so that `sel` is undefined (R67, log 15). Safe. -/
  | noMarker
  /-- A micro-operation that needs `L`, `E` or `R` outside an emission, where they have no value (R32, log 15). Safe. -/
  | noEmission
  /-- `HOST_PUSH` after the end of data (R63: "not allowed when `IN_EOD = 1`", log 18). Safe. -/
  | pushAfterEod
  /-- `HOST_PUSH` beyond `IN_CAP` (R11, D27, log 18). Safe. -/
  | inputOverCap
  /-- `HOST_CAP` beyond `OUT_CAP` (R63). Safe. -/
  | outputOverCap
  /-- `HOST_PUSH` of a record whose index or value does not fit `W` bits (R27, log 18). Safe. -/
  | recordTooWide
  /-- `HOST_CONSTRUCT` with a value that does not fit `W` bits (R17, R163, log 20). Safe. -/
  | configTooWide
  /-- The host writes its buffer outside the offered window (log 19). Safe. -/
  | fillOutsideWindow
deriving DecidableEq, Repr, Inhabited

/-- The steps of the host (R63), and `fill`, by which the host leaves values in its buffer before an invocation (R166, log 19). -/
inductive HostStep where
  | push (samples : List Sample) (tags : List TagRec)
  | eod
  | cap (c : Nat)
  | invoke
  | construct (padFront padTail : Nat)
  | fill (at_ : Nat) (samples : List Sample)
deriving DecidableEq, Repr, Inhabited

/-- The scratch of one emission (R32, R33): the phase, and the operands latched at the start of the step: `L` and the bits
`E` and `R` of `COND` (R98). -/
structure Job where
  phase : BitVec 4
  count : Nat
  e     : Bool
  r     : Bool
deriving DecidableEq, Repr, Inhabited

/-- Written cells of the output window by index: strictly rising indices; a cell not listed holds an unspecified value
(R29, log 9, log 25). -/
abbrev Memory := List (Nat × Sample)

/-- The canonical form of `Memory`. -/
abbrev Memory.wf (m : Memory) : Prop := (m.map Prod.fst).Pairwise (· < ·)

/-- The state (R15), owner by owner. -/
@[ext]
structure State where
  /-- The open parameters (R11); never written. -/
  par      : Params
  /-- `PRE[0..320)` (R25); never written. -/
  rom      : Vector Sample 320
  /-- `CFG.PAD_FRONT` (R17). -/
  padFront : Nat
  /-- `CFG.PAD_TAIL` (R18). -/
  padTail  : Nat
  /-- `STATUS`: `FIN` in bit 0, `FLT` in bit 1 (R20). -/
  status   : BitVec 2
  /-- `FLT_CODE` (R23). -/
  fltCode  : BitVec 8
  /-- `FLT_INFO` (R23). -/
  fltInfo  : Nat
  /-- `in[0..in_len)` (R26). -/
  inn      : List Sample
  /-- `IN_TAGS` (R27). -/
  inTags   : List TagRec
  /-- `IN_EOD` (R28). -/
  inEod    : Bool
  /-- `in_pos` (R34). -/
  inPos    : Nat
  /-- `out_cap` (R29). -/
  outCap   : Nat
  /-- `out[0..out_cap)` (R29). -/
  out      : Memory
  /-- `OSTREAM` (R30). -/
  ostream  : List Sample
  /-- `OUT_TAGS` (R30). -/
  outTags  : List TagRec
  /-- `OUT_FIN` (R31). -/
  outFin   : Bool
  /-- The emission in progress; `none` between the steps of every run (log 2). -/
  job      : Option Job
  /-- The host's next steps; after the last the host invokes (R8, log 1). -/
  agenda   : List HostStep
  /-- How many output windows the host has chosen so far: the argument of the free values (log 9, log 10). -/
  draws    : Nat
deriving DecidableEq, Repr

/-- Right after construction (R37, R160) with `pad_front = 0` and `pad_tail = 0` (DESIGN CHOICE, unsafe, log 11) and the
default parameters: the streams empty, the flags zero, every output cell unspecified, `out_cap` the host's. -/
def State.reset : State :=
  { par := Params.default, rom := Config.preamble, padFront := 0, padTail := 0,
    status := 0, fltCode := 0, fltInfo := 0,
    inn := [], inTags := [], inEod := false, inPos := 0,
    outCap := min (Config.freeCap 0) Params.default.outCap, out := [], ostream := [], outTags := [], outFin := false,
    job := none, agenda := [], draws := 1 }

end Sys2Proof.Machine
end

