-- ==== Sys2Proof/Machine/Numerics.lean ====
section
/-! DEFINITION. The numerics: `zero` and `avg` of the instance (spec/00_scope.md R8, R11), and the default `avg`
(spec/44_window.md R128): binary32 addition and multiplication, round to nearest, ties to even. A finite pattern is an exact whole number of units of `2^-149`; a sum or
product is computed exactly and rounded once. IEEE 754 itself is taken from general knowledge (G6; PRESUMED, log 4). -/

namespace Sys2Proof.Machine

def f32Sign (a : B32) : Bool := a.getLsbD 31
def f32Exp (a : B32) : Nat := a.toNat / 2 ^ 23 % 2 ^ 8
def f32Frac (a : B32) : Nat := a.toNat % 2 ^ 23

def f32IsNan (a : B32) : Bool := f32Exp a == 255 && f32Frac a != 0
def f32IsInf (a : B32) : Bool := f32Exp a == 255 && f32Frac a == 0
def f32IsFinite (a : B32) : Bool := f32Exp a != 255

/-- The magnitude of a finite pattern in units of `2^-149`. -/
def f32Mag (a : B32) : Nat :=
  if f32Exp a = 0 then f32Frac a else (2 ^ 23 + f32Frac a) * 2 ^ (f32Exp a - 1)

/-- The value of a finite pattern in units of `2^-149`. -/
def f32Units (a : B32) : Int :=
  if f32Sign a then -(f32Mag a : Int) else (f32Mag a : Int)

/-- A pattern from its sign and its other 31 bits. -/
def f32Pack (sign : Bool) (bits : Nat) : B32 :=
  BitVec.ofNat 32 ((if sign then 2 ^ 31 else 0) + bits)

/-- An infinity. -/
def f32Inf (sign : Bool) : B32 := f32Pack sign (255 * 2 ^ 23)

/-- A NaN with the sign and payload of `v`, every NaN being some `f32NanOf v` (R128: the payload is not specified). -/
def f32NanOf (v : B32) : B32 :=
  f32Pack (f32Sign v) (255 * 2 ^ 23 + (if f32Frac v = 0 then 2 ^ 22 else f32Frac v))

/-- `n / 2^s` rounded to nearest, ties to even. -/
def roundShift (n s : Nat) : Nat :=
  let q := n / 2 ^ s
  let rem := n % 2 ^ s
  if 2 ^ s < 2 * rem ∨ (2 * rem = 2 ^ s ∧ q % 2 = 1) then q + 1 else q

/-- `n` units of `2^-(149 + q)` rounded to binary32, with the given sign: 24 significant bits, or fewer below the normal
range, overflow to infinity. -/
def f32Round (sign : Bool) (n q : Nat) : B32 :=
  let s := max q (Nat.log2 n - 23)
  let bits := roundShift n s + (s - q) * 2 ^ 23
  if 255 * 2 ^ 23 ≤ bits then f32Inf sign else f32Pack sign bits

/-- IEEE 754 binary32 addition (R128); an exact zero sum is `+0` unless both operands are negative. -/
def add32 (a b : B32) : B32 :=
  if f32IsNan a || f32IsNan b || (f32IsInf a && f32IsInf b && f32Sign a != f32Sign b) then f32NanOf (Config.freeAddNan a b)
  else if f32IsInf a then a
  else if f32IsInf b then b
  else
    let sum := f32Units a + f32Units b
    if sum = 0 then f32Pack (f32Sign a && f32Sign b) 0 else f32Round (sum < 0) sum.natAbs 0

/-- IEEE 754 binary32 multiplication (R128). -/
def mul32 (a b : B32) : B32 :=
  let sign := f32Sign a != f32Sign b
  if f32IsNan a || f32IsNan b || (f32IsInf a && f32Mag b == 0) || (f32IsInf b && f32Mag a == 0) then
    f32NanOf (Config.freeMulNan a b)
  else if f32IsInf a || f32IsInf b then f32Inf sign
  else f32Round sign (f32Mag a * f32Mag b) 149

/-- The coefficient one half (R127), binary32 `0.5`. -/
def f32Half : B32 := 0x3f000000

/-- One component of the average: `mul32(0.5, add32(a, b))` (R128). -/
def avg32 (a b : B32) : B32 := mul32 f32Half (add32 a b)

/-- The default average, each component by itself (R128). -/
def avgComplex (a b : Complex32) : Complex32 := { re := avg32 a.re b.re, im := avg32 a.im b.im }

/-- The average of two samples under a rule (R128, D5, log 23). -/
def averageBy (rule : Average) (a b : Sample) : Sample :=
  match rule with
  | .halfOfSum =>
    match a, b with
    | .b32 x, .b32 y => .b32 (avgComplex x y)
    | .other _, _ | .b32 _, .other _ => Config.foreignAverage a b
  | .given rows rest => (rows.lookup (a, b)).getD (Config.unlistedAverage rest a b)

/-- `zero` (R11, D6). -/
def State.zero (s : State) : Sample := s.par.numerics.zero

/-- `avg(a, b)` (R11, R128). -/
def State.avg (s : State) (a b : Sample) : Sample := averageBy s.par.numerics.avg a b

/-- The binary32 pattern of an integer, as the stimulus notation's samples need it (95_test_vectors.md section 0). -/
def f32OfInt (n : Int) : B32 := f32Round (n < 0) (n.natAbs * 2 ^ 149) 0

end Sys2Proof.Machine
end

