-- ==== Sys2Proof/Machine/Operands.lean ====
section
/-! DEFINITION. Operand assembly (spec/30_encoding.md R67, R68, R76, R77, R82): marker selection and every length and index an
emission uses, as exact natural numbers (R78). -/

namespace Sys2Proof.Machine

/-- `in_len` (R26). -/
def State.inLen (s : State) : Nat := s.inn.length

/-- `out_pos` (R34): the length of `OSTREAM` (log 22). -/
def State.outPos (s : State) : Nat := s.ostream.length

/-- `P` (R10). -/
def State.padP (s : State) : Nat := s.padFront

/-- `PT = max(CFG.PAD_TAIL, 1)` (R76). -/
def State.padT (s : State) : Nat := max s.padTail 1

/-- `req_in = 64 * L` (R77). -/
def reqIn (count : Nat) : Nat := 64 * count

/-- `req_out = P + PT + 80 * L + 320` (R77). -/
def State.reqOut (s : State) (count : Nat) : Nat := s.padP + s.padT + 80 * count + 320

/-- `T0 = P + 320 + 80 * L` (R77). -/
def State.tail0 (s : State) (count : Nat) : Nat := s.padP + 320 + 80 * count

/-- `base_k = P + 320 + 80 * k`, which is also the seam index `B_k` (R77). -/
def State.base (s : State) (k : Nat) : Nat := s.padP + 320 + 80 * k

/-- `src_k = 64 * k` (R77). -/
def srcIndex (k : Nat) : Nat := 64 * k

/-- `cp_k = 64 * k + 48` (R77). -/
def cpIndex (k : Nat) : Nat := 64 * k + 48

/-- A record is a marker the framer sees: a `BURST_START` at an index inside the window (R67, R68). -/
def State.isVisibleMarker (s : State) (t : TagRec) : Bool :=
  t.kind == .burstStart && decide (t.index < s.inLen)

/-- The record with the smallest index, the earliest in the list among equals (R67). -/
def earliest : List TagRec → Option TagRec
  | [] => none
  | t :: ts =>
    match earliest ts with
    | none => some t
    | some u => if t.index ≤ u.index then some t else some u

/-- `sel`, the selected marker (R67). -/
def State.sel (s : State) : Option TagRec := earliest (s.inTags.filter s.isVisibleMarker)

/-- No value of a burst of `count` symbols reaches `2^W` (R12, R82). -/
def State.fits (s : State) (count : Nat) : Bool :=
  decide (s.padP < 2 ^ s.par.wordBits) && decide (s.padTail < 2 ^ s.par.wordBits) && decide (s.padT < 2 ^ s.par.wordBits)
    && decide (64 * count < 2 ^ s.par.wordBits) && decide (80 * count < 2 ^ s.par.wordBits)
    && decide (s.reqOut count < 2 ^ s.par.wordBits)

end Sys2Proof.Machine
end

