-- ==== Sys2Proof/Machine/Ops.lean ====
section
/-! DEFINITION. The shared operations: chaining, reads and writes of the spaces (spec/20_memory.md R39 to R56), the interface
commands of the framer (R59 to R62), fault entry (spec/60_exceptions.md R141, R149) and the scratch of an emission. -/

namespace Sys2Proof.Machine

/-- A computation that can stop with a fault or a refusal. -/
abbrev Res (α : Type) := Host.Outcome α Fault Refusal

/-- Go on with what `r` answers, or stop as it stops. -/
def andThen {α β : Type} (r : Res α) (f : α → Res β) : Res β :=
  match r with
  | .next a => f a
  | .fault e => .fault e
  | .refused e => .refused e

/-- `body lo`, `body (lo + 1)`, …, `n` of them in ascending order. -/
def forRange (body : Nat → State → Res State) (lo : Nat) : Nat → State → Res State
  | 0, s => .next s
  | n + 1, s => andThen (body lo s) (forRange body (lo + 1) n)

/-! Memory: the cells of the output window. -/

/-- The cells `a, a + 1, …` holding the given samples. -/
def cellsFrom (a : Nat) : List Sample → Memory
  | [] => []
  | v :: vs => (a, v) :: cellsFrom (a + 1) vs

/-- The sample written in cell `i`, if any. -/
def memRead (m : Memory) (i : Nat) : Option Sample := m.lookup i

/-- Write consecutive cells from `a` on; a later write wins (R56). -/
def memWrite (m : Memory) (a : Nat) (vs : List Sample) : Memory :=
  m.filter (fun c => decide (c.1 < a)) ++ cellsFrom a vs ++ m.filter (fun c => decide (a + vs.length ≤ c.1))

/-- Forget the cells at and beyond `c`. -/
def memClip (m : Memory) (c : Nat) : Memory := m.filter (fun cell => decide (cell.1 < c))

/-- What cell `i` of the output window holds: the sample written there, else an unspecified one (R29, R35, R105). -/
def State.cell (s : State) (i : Nat) : Sample := (memRead s.out i).getD (Config.freeCell s.draws i)

/-! Reads and writes of the data spaces, `MemRead` and `MemWrite` of R14, defined inside the space only (R45). -/

/-- `in[a .. a+n)` (R40). -/
def readIn (s : State) (a n : Nat) : Res (List Sample) :=
  if a + n ≤ s.inLen then .next ((s.inn.drop a).take n) else .fault (.outsideSpace .inp)

/-- `PRE[a .. a+n)` (R41). -/
def readRom (s : State) (a n : Nat) : Res (List Sample) :=
  if a + n ≤ 320 then .next ((s.rom.toList.drop a).take n) else .fault (.outsideSpace .rom)

/-- `PRE[a]`, one entry (R113). -/
def readRomAt (s : State) (a : Nat) : Res Sample :=
  if h : a < 320 then .next s.rom[a] else .fault (.outsideSpace .rom)

/-- `out[i]`, one cell (R50). -/
def readOutAt (s : State) (i : Nat) : Res Sample :=
  if i < s.outCap then .next (s.cell i) else .fault (.outsideSpace .out)

/-- The output window with other written cells. -/
def State.withOut (s : State) (m : Memory) : State := { s with out := m }

/-- `out[a .. a+n) <- vs` (R42); writing nothing accesses no cell. -/
def writeOut (s : State) (a : Nat) (vs : List Sample) : Res State :=
  if a + vs.length ≤ s.outCap ∨ vs = [] then .next (s.withOut (memWrite s.out a vs)) else .fault (.outsideSpace .out)

/-! The interface commands of the framer. -/

/-- The records that survive the consumption of `n` samples, at their new indices, order kept (R59). -/
def rebaseTags (n : Nat) (ts : List TagRec) : List TagRec :=
  (ts.filter fun t => decide (n ≤ t.index)).map fun t => { t with index := t.index - n }

/-- The state after `n` samples are consumed (R59). -/
def State.consumed (s : State) (n : Nat) : State :=
  { s with inn := s.inn.drop n, inTags := rebaseTags n s.inTags, inPos := s.inPos + n }

/-- `CONSUME(n)`, defined for `n <= in_len` (R59). -/
def consumeCmd (n : Nat) (s : State) : Res State :=
  if n ≤ s.inLen then .next (s.consumed n) else .fault (.outsideSpace .inp)

/-- `out[0 .. n)`, cells nobody wrote included (R60). -/
def State.firstCells (s : State) (n : Nat) : List Sample := (List.range n).map s.cell

/-- The size of the window the host offers next (R60: any value, up to `OUT_CAP`). -/
def State.nextCap (s : State) : Nat := min (Config.freeCap s.draws) s.par.outCap

/-- The state after `n` samples are produced: a fresh window of unspecified content and of the host's size (R60). -/
def State.produced (s : State) (n : Nat) : State :=
  { s with ostream := s.ostream ++ s.firstCells n, outCap := s.nextCap, out := [], draws := s.draws + 1 }

/-- `PRODUCE(n)`, defined for `n <= out_cap` (R60). -/
def produceCmd (n : Nat) (s : State) : Res State :=
  if n ≤ s.outCap then .next (s.produced n) else .fault (.outsideSpace .out)

/-- The state with a `BURST_BOUNDARY` record at stream position `out_pos + off` (R61). -/
def State.tagged (s : State) (off v : Nat) : State :=
  { s with outTags := s.outTags ++ [{ index := s.outPos + off, kind := .burstBoundary, value := v }] }

/-- `TAGOUT(off, v)`, defined for `off < out_cap` (R61). -/
def tagOutCmd (off v : Nat) (s : State) : Res State :=
  if off < s.outCap then .next (s.tagged off v) else .fault (.outsideSpace .out)

/-- `SET_FINISHED()` (R62). -/
def State.setFinished (s : State) : State := { s with outFin := true }

/-- `STATUS.FIN <- 1` (R93, R135). -/
def State.setFin (s : State) : State := { s with status := s.status ||| 1#2 }

/-! Fault entry. There is no return from a fault (R151). -/

/-- The code of `MARKER_MISALIGNED` (R141). -/
def markerMisaligned : BitVec 8 := 1

/-- Fault entry: `FLT_CODE`, `FLT_INFO`, `STATUS.FLT`, and nothing else (R94, R149). -/
def State.raiseFault (s : State) (code : BitVec 8) (info : Nat) : State :=
  { s with fltCode := code, fltInfo := info, status := s.status ||| 2#2 }

/-! The scratch of an emission (R32, R33). -/

/-- Start an emission: phase 0, with `L` and the bits `E` and `R` of `COND` latched (R98). -/
def State.latched (s : State) (count : Nat) (e r : Bool) : State :=
  { s with job := some { phase := 0, count := count, e := e, r := r } }

/-- `phase <- p` (R14, R33); nothing outside an emission. -/
def State.toPhase (s : State) (p : BitVec 4) : State :=
  { s with job := s.job.map fun j => { j with phase := p } }

/-- The end of an emission: the scratch is gone (R32). -/
def State.endEmission (s : State) : State := { s with job := none }

/-- Run `body` on the latched operands; refuse where there are none. -/
def withJob (s : State) (body : Job → Res State) : Res State :=
  match s.job with
  | some j => body j
  | none => .refused .noEmission

/-- Run `body` on the selected marker; refuse where there is none. -/
def withMarker (s : State) (body : TagRec → Res State) : Res State :=
  match s.sel with
  | some t => body t
  | none => .refused .noMarker

/-- The refusals of R81 and R82, made before anything else is done with a marker's count (R89). -/
def admitCount (s : State) (count : Nat) : Res Unit :=
  if count = 0 then .refused .countZero
  else if s.fits count then .next ()
  else .refused .countTooLarge

end Sys2Proof.Machine
end

