-- ==== Sys2Proof/Machine/Commit.lean ====
section
/-! DEFINITION. The commit phases (spec/45_commit_and_tags.md R132 to R135). -/

namespace Sys2Proof.Machine

/-- `CONSUME`: `CONSUME(64*L)` (R132). -/
def execConsume (s : State) : Res State :=
  withJob s fun j => andThen (consumeCmd (reqIn j.count) s) fun t => .next (t.toPhase 7)

/-- `TAGOUT`: `TAGOUT(0, req_out)` (R134). -/
def execTagout (s : State) : Res State :=
  withJob s fun j => andThen (tagOutCmd 0 (s.reqOut j.count) s) fun t => .next (t.toPhase 8)

/-- `PRODUCE`: `PRODUCE(req_out)` (R133). -/
def execProduce (s : State) : Res State :=
  withJob s fun j => andThen (produceCmd (s.reqOut j.count) s) fun t => .next (t.toPhase 9)

/-- `EODCHK`: if `E` and `R` then `SET_FINISHED()` and `STATUS.FIN <- 1`; the emission ends (R135). -/
def execEodchk (s : State) : Res State :=
  withJob s fun j => .next ((if j.e && j.r then s.setFinished.setFin else s).endEmission)

end Sys2Proof.Machine
end

