-- ==== Sys2Proof/Machine/CyclicPrefix.lean ====
section
/-! DEFINITION. The cyclic-prefix inserter (spec/43_cyclic_prefix.md R117). -/

namespace Sys2Proof.Machine

/-- `CPSYM(k)`: the symbol's last 16 samples, then the whole symbol (R117). -/
def cpSymbol (k : Nat) (s : State) : Res State :=
  andThen (readIn s (cpIndex k) 16) fun tail =>
    andThen (writeOut s (s.base k) tail) fun s1 =>
      andThen (readIn s1 (srcIndex k) 64) fun symbol =>
        writeOut s1 (s1.base k + 16) symbol

/-- `CPSYM`: `CPSYM(k)` for `k = 0, …, L-1` (R98, R117). -/
def execCpsym (s : State) : Res State :=
  withJob s fun j => andThen (forRange cpSymbol 0 j.count s) fun t => .next (t.toPhase 3)

end Sys2Proof.Machine
end

