-- ==== Sys2Proof/Machine/Padding.lean ====
section
/-! DEFINITION. The guard-padding controller (spec/41_guard_padding.md R103 to R108). -/

namespace Sys2Proof.Machine

/-- `PADF`: `out[0 .. P) <- zero` (R103). -/
def execPadf (s : State) : Res State :=
  andThen (writeOut s 0 (List.replicate s.padP s.zero)) fun t => .next (t.toPhase 1)

/-- `PADT`: `out[T0+1 .. T0+PT) <- zero`; `out[T0]` is not written (R104, R105). -/
def execPadt (s : State) : Res State :=
  withJob s fun j =>
    andThen (writeOut s (s.tail0 j.count + 1) (List.replicate (s.padT - 1) s.zero)) fun t => .next (t.toPhase 6)

end Sys2Proof.Machine
end

