-- ==== Sys2Proof/Machine/Preamble.lean ====
section
/-! DEFINITION. The preamble copy (spec/42_preamble_rom.md R114). -/

namespace Sys2Proof.Machine

/-- `PRE`: `out[P .. P+320) <- PRE[0 .. 320)` (R114). -/
def execPre (s : State) : Res State :=
  andThen (readRom s 0 320) fun vs =>
    andThen (writeOut s s.padP vs) fun t => .next (t.toPhase 2)

end Sys2Proof.Machine
end

