-- ==== Sys2Proof/Machine/Window.lean ====
section
/-! DEFINITION. The window-coefficient multiplier (spec/44_window.md R123, R124). -/

namespace Sys2Proof.Machine

/-- `WIN0`: `out[B_0] <- avg(out[B_0], PRE[WIN_TAP_PRE])` (R123). -/
def execWin0 (s : State) : Res State :=
  andThen (readOutAt s (s.base 0)) fun a =>
    andThen (readRomAt s s.par.tapPre) fun b =>
      andThen (writeOut s (s.base 0) [s.avg a b]) fun t => .next (t.toPhase 4)

/-- `WINK(k)`: `out[B_k] <- avg(out[B_k], out[B_(k-1) + WIN_TAP_SYM])` (R124). -/
def blendSymbol (k : Nat) (s : State) : Res State :=
  andThen (readOutAt s (s.base k)) fun a =>
    andThen (readOutAt s (s.base (k - 1) + s.par.tapSym)) fun b =>
      writeOut s (s.base k) [s.avg a b]

/-- `WINK`: `WINK(k)` for `k = 1, …, L-1` (R98, R124). -/
def execWink (s : State) : Res State :=
  withJob s fun j => andThen (forRange blendSymbol 1 (j.count - 1) s) fun t => .next (t.toPhase 5)

end Sys2Proof.Machine
end

