-- ==== Sys2Proof/Machine/Emit.lean ====
section
/-! DEFINITION. The emission of one burst (spec/40_gating_fsm.md R96 to R98): all phases in one step. -/

namespace Sys2Proof.Machine

/-- The phases in ascending code (R71, R98). -/
def emitPhases : List (State → Res State) :=
  [execPadf, execPre, execCpsym, execWin0, execWink, execPadt, execConsume, execTagout, execProduce, execEodchk]

/-- One phase after another (R55). -/
def runPhases : List (State → Res State) → State → Res State
  | [], s => .next s
  | f :: fs, s => andThen (f s) (runPhases fs)

/-- The sequence of R98 for the selected marker, with the bits `E` and `R` of the step's `COND`; a count outside the admitted
subset is refused (R12). The bits come from the word the operation is decoded from (log 30). -/
def emission (e r : Bool) (s : State) : Res State :=
  withMarker s fun t =>
    andThen (admitCount s t.value) fun _ => runPhases emitPhases (s.latched t.value e r)

/-- `EMIT` without end-of-data, `COND = 11011r` (R96). -/
def execEmit (r : Bool) (s : State) : Res State := emission false r s

/-- `EMIT` at end-of-data with another `64*L` samples left, `COND = 111110` (R96). -/
def execEmitEod (s : State) : Res State := emission true false s

/-- `EMIT_FIN`, `COND = 111111` (R97). -/
def execEmitFin (s : State) : Res State := emission true true s

end Sys2Proof.Machine
end

