-- ==== Sys2Proof/Machine/Flags.lean ====
section
/-! DEFINITION. The flags: `STATUS` and the gating FSM it encodes (spec/10_state.md R20, spec/40_gating_fsm.md R90), the gate
(R79), the remainder test (R80) and the condition word (R66). -/

namespace Sys2Proof.Machine

/-- `STATUS.FIN` (R20). -/
def State.fin (s : State) : Bool := s.status.getLsbD 0

/-- `STATUS.FLT` (R20). -/
def State.flt (s : State) : Bool := s.status.getLsbD 1

/-- The states of the gating FSM (R90). -/
inductive Fsm where
  | run
  | done
  | faulted
deriving DecidableEq, Repr, Inhabited

/-- The FSM state that `STATUS` encodes (R90); none for both bits set, which no run reaches (R38). -/
def State.fsm (s : State) : Option Fsm :=
  match s.fin, s.flt with
  | false, false => some .run
  | true, false => some .done
  | false, true => some .faulted
  | true, true => none

/-- Bit `I`: `in_len >= req_in` (R66). -/
def State.inputSuffices (s : State) (count : Nat) : Bool := decide (reqIn count ≤ s.inLen)

/-- Bit `O`: `out_cap >= req_out` (R66). -/
def State.outputSuffices (s : State) (count : Nat) : Bool := decide (s.reqOut count ≤ s.outCap)

/-- The gate (R79). -/
def State.gate (s : State) (count : Nat) : Bool := s.outputSuffices count && s.inputSuffices count

/-- Bit `R`: fewer than `64*L` samples would remain after this burst (R66, R80). -/
def State.remainderShort (s : State) (count : Nat) : Bool := decide (s.inLen - 64 * count < 64 * count)

/-- `COND` (R66): a bit that is not valid is 0. -/
def State.cond (s : State) : Cond :=
  match s.sel with
  | none => { m := false, z := false, e := s.inEod, i := false, o := false, r := false }
  | some t =>
    let z := t.index == 0
    let i := z && s.inputSuffices t.value
    { m := true, z := z, e := s.inEod, i := i, o := z && s.outputSuffices t.value, r := i && s.remainderShort t.value }

end Sys2Proof.Machine
end

