-- ==== Sys2Proof/Machine/Gating.lean ====
section
/-! DEFINITION. The operations of the gating FSM that move no sample (spec/40_gating_fsm.md R91 to R95, R99). A word's
don't-care bits have no influence on them. -/

namespace Sys2Proof.Machine

/-- `NOP_TERM` in state `DONE`: no effect (R91). -/
def execNopTermFin (s : State) : Res State := .next s

/-- `NOP_TERM` in state `FAULTED`: no effect (R91, R151). -/
def execNopTermFlt (s : State) : Res State := .next s

/-- `IDLE`: no effect; unmarked samples stay where they are (R92). -/
def execIdle (s : State) : Res State := .next s

/-- `FINISH`: `SET_FINISHED()`, then `STATUS.FIN <- 1` (R93). -/
def execFinish (s : State) : Res State := .next s.setFinished.setFin

/-- `FAULT`: `raise MARKER_MISALIGNED(sel.index)` (R94, R142). -/
def execFault (s : State) : Res State :=
  withMarker s fun t => .next (s.raiseFault markerMisaligned t.index)

/-- `WAIT` with the input short: no effect (R95). -/
def execWaitIn (s : State) : Res State := .next s

/-- `WAIT` with the output short: no effect (R95). -/
def execWaitOut (s : State) : Res State := .next s

end Sys2Proof.Machine
end

