-- ==== Sys2Proof/Machine/Dispatch.lean ====
section
/-! DEFINITION. One arm per row of spec/opcode_table.json. The gate is not tested again here: the step runs only what the
state selects (log 30). -/

namespace Sys2Proof.Machine

def exec (i : Instr) (s : State) : Host.Outcome State Fault Refusal :=
  match i with
  | .nopTermFin _ => Sys2Proof.Machine.execNopTermFin s
  | .nopTermFlt _ => Sys2Proof.Machine.execNopTermFlt s
  | .idle => Sys2Proof.Machine.execIdle s
  | .finish => Sys2Proof.Machine.execFinish s
  | .fault _ => Sys2Proof.Machine.execFault s
  | .waitIn _ _ => Sys2Proof.Machine.execWaitIn s
  | .waitOut _ _ => Sys2Proof.Machine.execWaitOut s
  | .emit r => Sys2Proof.Machine.execEmit r s
  | .emitEod => Sys2Proof.Machine.execEmitEod s
  | .emitFin => Sys2Proof.Machine.execEmitFin s
  | .padf => Sys2Proof.Machine.execPadf s
  | .pre => Sys2Proof.Machine.execPre s
  | .cpsym => Sys2Proof.Machine.execCpsym s
  | .win0 => Sys2Proof.Machine.execWin0 s
  | .wink => Sys2Proof.Machine.execWink s
  | .padt => Sys2Proof.Machine.execPadt s
  | .consume => Sys2Proof.Machine.execConsume s
  | .tagout => Sys2Proof.Machine.execTagout s
  | .produce => Sys2Proof.Machine.execProduce s
  | .eodchk => Sys2Proof.Machine.execEodchk s

end Sys2Proof.Machine
end

