-- ==== Sys2Proof/Machine/HostSteps.lean ====
section
/-! DEFINITION. The steps of the host between invocations (spec/20_memory.md R63, spec/70_reset_and_hazards.md R159, R162,
R166). `HOST_INVOKE` is in Machine/Step.lean. -/

namespace Sys2Proof.Machine

/-- Every record fits its `W`-bit fields (R27). -/
def tagsFit (W : Nat) (ts : List TagRec) : Bool :=
  ts.all fun t => decide (t.index < 2 ^ W) && decide (t.value < 2 ^ W)

/-- `HOST_PUSH(samples, tags)` (R63). An index outside the new window is let through: the framer does not see such a record
(R68, log 18). -/
def hostPush (samples : List Sample) (tags : List TagRec) (s : State) : Res State :=
  if s.inEod then .refused .pushAfterEod
  else if s.par.inCap < s.inLen + samples.length then .refused .inputOverCap
  else if tagsFit s.par.wordBits tags then .next { s with inn := s.inn ++ samples, inTags := s.inTags ++ tags }
  else .refused .recordTooWide

/-- `HOST_EOD` (R63, R28). -/
def hostEod (s : State) : Res State := .next { s with inEod := true }

/-- `HOST_CAP(c)`: cells that stay visible keep their content, cells that leave the window lose it (R63, log 24). -/
def hostCap (c : Nat) (s : State) : Res State :=
  if c ≤ s.par.outCap then .next { s with outCap := c, out := memClip s.out c } else .refused .outputOverCap

/-- The host leaves values in its own buffer before an invocation (R166, log 19). -/
def hostFill (a : Nat) (samples : List Sample) (s : State) : Res State :=
  if a + samples.length ≤ s.outCap then .next (s.withOut (memWrite s.out a samples)) else .refused .fillOutsideWindow

/-- `HOST_CONSTRUCT(pad_front, pad_tail)`: the values of R37 and fresh streams (R159, R162, log 20). -/
def hostConstruct (padFront padTail : Nat) (s : State) : Res State :=
  if padFront < 2 ^ s.par.wordBits ∧ padTail < 2 ^ s.par.wordBits then
    .next { s with
      padFront := padFront, padTail := padTail, status := 0, fltCode := 0, fltInfo := 0,
      inn := [], inTags := [], inEod := false, inPos := 0,
      outCap := s.nextCap, out := [], ostream := [], outTags := [], outFin := false,
      job := none, draws := s.draws + 1 }
  else .refused .configTooWide

end Sys2Proof.Machine
end

