-- ==== Sys2Proof/Machine/Select.lean ====
section
/-! DEFINITION. Which operation the next step runs (spec/40_gating_fsm.md R89, spec/60_exceptions.md R148), what stands for
an instruction fetch here, and how a word of the opcode table is put where the step will find it (log 12). -/

namespace Sys2Proof.Machine

/-- The operation in a word read in a format; a reserved word is refused. -/
def operationOf (f : Format) (w : Nat) : Res Instr :=
  match decodeWord f w with
  | .ok i => .next i
  | .error r => .refused (.reservedWord r)

/-- The next operation: the phase of an emission in progress; else `NOP_TERM` in a terminal state; else, after the refusals
of R81 and R82 where a marker is selected, what `COND` selects (R89, R148). -/
def State.operation (s : State) : Res Instr :=
  match s.job with
  | some j => operationOf .phase j.phase.toNat
  | none =>
    if s.fin || s.flt then operationOf .status s.status.toNat
    else
      match s.sel with
      | none => operationOf .cond s.cond.word.toNat
      | some t => andThen (admitCount s t.value) fun _ => operationOf .cond s.cond.word.toNat

/-- No emission in progress, state `RUN`, the host about to invoke: what every `COND` word needs. -/
def State.atRun (s : State) : State := { s with status := 0, job := none, agenda := [] }

/-- `s` set up so that `COND` is `c`, for every `c` that R66 can produce, with a marker of one symbol where `M = 1`. -/
def State.placeCond (s : State) (c : Cond) : State :=
  let s0 := { s.atRun with inEod := c.e }
  if c.m then
    { s0 with
      inTags := [{ index := if c.z then 0 else 1, kind := .burstStart, value := 1 }]
      inn := List.replicate (if c.i then (if c.r then 64 else 128) else 2) s.zero
      outCap := if c.o then s.reqOut 1 else 0 }
  else { s0 with inTags := [] }

/-- `s` in the middle of the emission of one symbol, at phase `p`, with windows that hold the burst. -/
def State.placePhase (s : State) (p : BitVec 4) : State :=
  { s.atRun with
    inn := List.replicate 64 s.zero
    outCap := s.reqOut 1
    job := some { phase := p, count := 1, e := s.inEod, r := true } }

/-- `s` with the word `w` of the opcode table where the next step reads it (log 12). -/
def State.placeWord (s : State) (nbits w : Nat) : State :=
  match formatOf nbits w with
  | .status => { s.atRun with status := BitVec.ofNat 2 w }
  | .cond => s.placeCond (Cond.ofWord (BitVec.ofNat 6 w))
  | .phase => s.placePhase (BitVec.ofNat 4 w)

end Sys2Proof.Machine
end

