-- ==== Sys2Proof/Machine/Step.lean ====
section
/-! DEFINITION. One step of the machine. The host's agenda says whose step it is (spec/00_scope.md R8): an emission in progress
goes on by itself, an empty agenda is an invocation. -/

namespace Sys2Proof.Machine

/-- `INVOKE`: select the operation and run it (R89). -/
def invoke (s : State) : Host.Outcome State Fault Refusal :=
  andThen s.operation fun i => exec i s

/-- One step of the host (R63); `HOST_INVOKE` lets the framer take one `INVOKE`. -/
def hostStep (h : HostStep) (s : State) : Host.Outcome State Fault Refusal :=
  match h with
  | .push samples tags => hostPush samples tags s
  | .eod => hostEod s
  | .cap c => hostCap c s
  | .invoke => invoke s
  | .construct padFront padTail => hostConstruct padFront padTail s
  | .fill a samples => hostFill a samples s

/-- One step: the micro-operation of an emission in progress (log 2), else the host's next step, which after the end of its
agenda is an invocation (log 1). -/
def step (s : State) : Host.Outcome State Fault Refusal :=
  match s.job, s.agenda with
  | some _, _ => invoke s
  | none, [] => invoke s
  | none, h :: rest => hostStep h { s with agenda := rest }

/-- `s` with the word `w` of the opcode table where `step` finds its next operation (log 12). -/
def State.withFetchWord (s : State) (nbits w : Nat) : State := s.placeWord nbits w

end Sys2Proof.Machine
end

