-- ==== Sys2Proof/Safety.lean ====
section
/-! DEFINITION. What counts as a good end (spec/40_gating_fsm.md R90, spec/60_exceptions.md R151, R153) and the invariant of the
states between steps (spec/10_state.md R38, with the bounds of R23, R26, R27, R29 and the positions of R34). -/

namespace Sys2Proof.Machine

/-- The only good end of a run: `DONE` (R90, R153). -/
def State.goodEnd (s : State) : Prop := s.fsm = some .done

/-- A run that reaches `FAULTED` has gone wrong (R22, R151). -/
def State.goneWrong (s : State) : Prop := s.fsm = some .faulted

/-- The records of `OUT_TAGS` are burst boundaries that divide the stream from `at_` to `stop` without gap or overlap: each
stands at the first sample of its burst and carries the burst's length (R38 (d), R101, R134). -/
def tiles : List TagRec → Nat → Nat → Prop
  | [], at_, stop => at_ = stop
  | t :: ts, at_, stop => t.kind = .burstBoundary ∧ t.index = at_ ∧ tiles ts (at_ + t.value) stop

/-- What holds between the steps of every run. -/
structure State.Inv (s : State) : Prop where
  /-- The parameters are admitted (R129, D9, D10, D27). -/
  params : s.par.Ok
  /-- The configuration fits its registers (R17, R18). -/
  config : s.padFront < 2 ^ s.par.wordBits ∧ s.padTail < 2 ^ s.par.wordBits
  /-- `FIN` and `FLT` are not both 1 (R38 (a)). -/
  status : ¬ (s.fin = true ∧ s.flt = true)
  /-- `STATUS.FIN = OUT_FIN` (R38 (b)). -/
  finished : s.fin = s.outFin
  /-- The cause of the fault while `FLT = 1`, else zero (R23, R141, R142). -/
  cause : if s.flt then s.fltCode = markerMisaligned ∧ s.fltInfo ≠ 0 else s.fltCode = 0 ∧ s.fltInfo = 0
  /-- `FLT_INFO` fits `W` bits (R23). -/
  info : s.fltInfo < 2 ^ s.par.wordBits
  /-- The host offers no more input than `IN_CAP` (R11, R26). -/
  input : s.inLen ≤ s.par.inCap
  /-- The host offers no more output space than `OUT_CAP` (R11, R29). -/
  output : s.outCap ≤ s.par.outCap
  /-- The records of `IN_TAGS` fit their fields (R27). -/
  records : ∀ t ∈ s.inTags, t.index < 2 ^ s.par.wordBits ∧ t.value < 2 ^ s.par.wordBits
  /-- The written cells are in canonical form. -/
  memory : Memory.wf s.out
  /-- The written cells lie inside the window (R42). -/
  cells : ∀ c ∈ s.out, c.1 < s.outCap
  /-- `OUT_TAGS` divides `OSTREAM` into bursts (R38 (d)). -/
  bursts : tiles s.outTags 0 s.outPos
  /-- `in_pos` is a multiple of 64 (R38 (e)). -/
  symbols : 64 ∣ s.inPos
  /-- `out_pos = b * (P + PT + 320) + 80 * (L_1 + … + L_b)`, where `in_pos = 64 * (L_1 + … + L_b)` and `b` bursts are
  completed (R34). -/
  positions : s.outPos = s.outTags.length * (s.padP + s.padT + 320) + 80 * (s.inPos / 64)
  /-- No emission is in progress (R32). -/
  between : s.job = none

end Sys2Proof.Machine
end

