-- ==== Sys2Proof/Certificates/Slice0/Obligations.lean ====
section
/-! DEFINITION. The statements for the provers, from the numbered rules of spec/. Each says which rule it formalises. -/

namespace Sys2Proof.Machine

/-- The rows of R69, `COND` as (mask, pattern), copied from the spec's table and not from the decoder. -/
def condRows : List (Nat × Nat) :=
  [(0x3f, 0x00), (0x3f, 0x08), (0x37, 0x20), (0x35, 0x30), (0x36, 0x34), (0x3e, 0x36), (0x3f, 0x3e), (0x3f, 0x3f)]

/-- State `RUN`, no emission in progress: where `COND` is computed (R66, R89). -/
structure Running (s : State) : Prop where
  fin : s.fin = false
  flt : s.flt = false
  job : s.job = none

/-- A marker of the admitted subset is selected (R12, R67). -/
structure Marked (s : State) (t : TagRec) : Prop where
  sel : s.sel = some t
  count : t.value ≠ 0
  fits : s.fits t.value = true

/-- What an emission needs: an admitted marker at index 0, both capacities (R79), and taps of the admitted range (R129). -/
structure Emittable (s : State) (t : TagRec) : Prop where
  marked : Marked s t
  index : t.index = 0
  input : 64 * t.value ≤ s.inLen
  output : s.padFront + max s.padTail 1 + 80 * t.value + 320 ≤ s.outCap
  taps : s.par.Ok

/-- `in[i]`, and `zero` outside the window. -/
def State.inAt (s : State) (i : Nat) : Sample := s.inn.getD i s.zero

/-- `PRE[i]`, and `zero` outside the ROM. -/
def State.romAt (s : State) (i : Nat) : Sample := s.rom.toList.getD i s.zero

/-- The value of the blended cell before symbol `k`, with general taps (R131). -/
def State.blend (s : State) (k : Nat) : Sample :=
  if k = 0 then s.avg (s.inAt 48) (s.romAt s.par.tapPre)
  else s.avg (s.inAt (64 * k + 48)) (s.inAt (64 * (k - 1) + (s.par.tapSym + 48) % 64))

/-- The sample at offset `i` of a burst of `count` symbols: the layout table of R51, the span shape of R118 and the blends of
R131; the first tail sample keeps the window's prior content (R105). -/
def State.layout (s : State) (count i : Nat) : Sample :=
  if i < s.padFront then s.zero
  else if i < s.padFront + 320 then s.romAt (i - s.padFront)
  else if i < s.padFront + 320 + 80 * count then
    let k := (i - s.padFront - 320) / 80
    let j := (i - s.padFront - 320) % 80
    if j = 0 then s.blend k else s.inAt (64 * k + (j + 48) % 64)
  else if i = s.padFront + 320 + 80 * count then s.cell i
  else s.zero

/-- The state after the emission of a burst of `count` symbols without end-of-data signalling (R98, R132 to R134). -/
def State.emitted (s : State) (count : Nat) : State :=
  let n := s.padFront + max s.padTail 1 + 80 * count + 320
  { s with
    inn := s.inn.drop (64 * count)
    inTags := rebaseTags (64 * count) s.inTags
    inPos := s.inPos + 64 * count
    ostream := s.ostream ++ (List.range n).map (s.layout count)
    outTags := s.outTags ++ [{ index := s.ostream.length, kind := .burstBoundary, value := n }]
    outCap := min (Config.freeCap s.draws) s.par.outCap
    out := []
    job := none
    draws := s.draws + 1 }

/-- The rows of the table that emit a burst: both of `EMIT` and `EMIT_FIN` (R96, R97). -/
def emits : Instr → Bool
  | .emit _ | .emitEod | .emitFin => true
  | .nopTermFin _ | .nopTermFlt _ | .idle | .finish | .fault _ | .waitIn _ _ | .waitOut _ _ | .padf | .pre | .cpsym | .win0
  | .wink | .padt | .consume | .tagout | .produce | .eodchk => false

/-- The next step constructs the framer anew (R162). -/
def State.aboutToConstruct (s : State) : Bool :=
  match s.job, s.agenda with
  | none, .construct _ _ :: _ => true
  | _, _ => false

end Sys2Proof.Machine

open Sys2Proof Sys2Proof.Machine

/-! ## Words and records -/

/-- R69, R71 and the choice of log 14: a word is read as `i` exactly when `i` is well formed and the word is `i`'s own. -/
def Obligations.DecodeInvertsEncode : Prop :=
  ∀ (f : Format) (w : Nat) (i : Instr), decodeWord f w = .ok i ↔ i.wellFormed = true ∧ encode i = (f, w)

/-- R69, its sentence under the table: every word R66 can produce matches exactly one row, and the decoder reads it. -/
def Obligations.EveryCondWordMatchesOneRow : Prop :=
  ∀ s : State,
    (condRows.filter fun row => s.cond.word.toNat &&& row.1 == row.2).length = 1 ∧
    ∃ i, decodeWord .cond s.cond.word.toNat = .ok i

/-- R71's last row and 93_implementation_defined.md U16: a reserved phase is rejected by name, so are the words that match no
row of R69, and a step that meets a reserved phase is refused. -/
def Obligations.ReservedWordsAreRefused : Prop :=
  (∀ w, 10 ≤ w → w < 16 → decodeWord .phase w = .error .phaseReserved) ∧
  (∀ w, w < 64 → (condRows.filter fun row => w &&& row.1 == row.2) = [] → decodeWord .cond w = .error .condNotProduced) ∧
  (∀ (s : State) (j : Job), s.job = some j → 10 ≤ j.phase.toNat → step s = .refused (.reservedWord .phaseReserved))

/-- Words written out from the patterns of R69 and the codes of R71. -/
def Obligations.SampleWordsDecode : Prop :=
  decodeWord .status 0b10 = .ok (.nopTermFlt false) ∧ decodeWord .cond 0b101000 = .ok (.fault true) ∧
  decodeWord .cond 0b110101 = .ok (.waitOut false true) ∧ decodeWord .cond 0b111111 = .ok .emitFin ∧
  decodeWord .phase 0b0101 = .ok .padt

/-- R72 and R73: where the fields of a `TAGREC` stand, that unpacking gives the record back, and that every code but 1 and 2 is
`OTHER`; a record of that kind is written with code 0 (log 21). -/
def Obligations.TagRecordFields : Prop :=
  ∀ (W : Nat) (t : TagRec), t.index < 2 ^ W → t.value < 2 ^ W →
    packTag W t < 2 ^ (2 * W + 8) ∧ packTag W t % 2 ^ W = t.index ∧ packTag W t / 2 ^ W % 2 ^ W = t.value ∧
    (t.kind = .burstStart → packTag W t / 2 ^ (2 * W) = 1) ∧ (t.kind = .burstBoundary → packTag W t / 2 ^ (2 * W) = 2) ∧
    (t.kind = .other → packTag W t / 2 ^ (2 * W) = 0) ∧ unpackTag W (packTag W t) = some t ∧
    ∀ c, c < 256 → c ≠ 1 → c ≠ 2 → unpackTag W (t.index + 2 ^ W * (t.value + 2 ^ W * c)) = some { t with kind := .other }

/-- R74, R75 and the byte image of R44: the fields of the other two words, each byte of the image, and the round trips. -/
def Obligations.SampleAndConfigWordFields : Prop :=
  (∀ s : Complex32, (packSample s).toNat % 2 ^ 32 = s.re.toNat ∧ (packSample s).toNat / 2 ^ 32 = s.im.toNat ∧
    unpackSample (packSample s) = s ∧ sampleOfBytes (sampleBytes s) = some s ∧ (sampleBytes s).length = 8 ∧
    ∀ j, j < 4 → (sampleBytes s)[j]? = some (s.re.extractLsb' (8 * j) 8) ∧
      (sampleBytes s)[4 + j]? = some (s.im.extractLsb' (8 * j) 8)) ∧
  (∀ W p pt : Nat, p < 2 ^ W → pt < 2 ^ W →
    packCfg W p pt % 2 ^ W = p ∧ packCfg W p pt / 2 ^ W = pt ∧ unpackCfg W (packCfg W p pt) = some (p, pt))

/-! ## Which operation runs -/

/-- R67, R68: the selected marker is the visible `BURST_START` of the smallest index, the earliest in the list among equals;
none is selected exactly when none is visible. -/
def Obligations.MarkerSelection : Prop :=
  ∀ s : State,
    (∀ t, s.sel = some t ↔
      ∃ before after, s.inTags = before ++ t :: after ∧ t.kind = .burstStart ∧ t.index < s.inLen ∧
        (∀ u ∈ before, u.kind = .burstStart → u.index < s.inLen → t.index < u.index) ∧
        (∀ u ∈ after, u.kind = .burstStart → u.index < s.inLen → t.index ≤ u.index)) ∧
    (s.sel = none ↔ ∀ u ∈ s.inTags, u.kind = .burstStart → ¬ u.index < s.inLen)

/-- R83: a record of another kind has no influence on the condition word or on the operation. -/
def Obligations.OtherKindsAreIgnored : Prop :=
  ∀ s : State, let u : State := { s with inTags := s.inTags.filter fun t => t.kind == .burstStart }
    u.cond = s.cond ∧ u.operation = s.operation

/-- R148, R89, R69: the priority of the operations, each condition written out from the rules. -/
def Obligations.OperationPriority : Prop :=
  ∀ s : State, s.job = none →
    (s.fin = true → s.operation = .next (.nopTermFin s.flt)) ∧
    (s.fin = false → s.flt = true → s.operation = .next (.nopTermFlt false)) ∧
    (Running s → s.sel = none → s.operation = .next (if s.inEod then .finish else .idle)) ∧
    (∀ t, Running s → s.sel = some t →
      (t.value = 0 → s.operation = .refused .countZero) ∧
      (t.value ≠ 0 → s.fits t.value = false → s.operation = .refused .countTooLarge) ∧
      (Marked s t → t.index ≠ 0 → s.operation = .next (.fault s.inEod)) ∧
      (Marked s t → t.index = 0 → s.inLen < 64 * t.value →
        s.operation = .next (.waitIn s.inEod (decide (s.padFront + max s.padTail 1 + 80 * t.value + 320 ≤ s.outCap)))) ∧
      (Marked s t → t.index = 0 → 64 * t.value ≤ s.inLen → s.outCap < s.padFront + max s.padTail 1 + 80 * t.value + 320 →
        s.operation = .next (.waitOut s.inEod (decide (s.inLen < 128 * t.value)))) ∧
      (Marked s t → t.index = 0 → 64 * t.value ≤ s.inLen → s.padFront + max s.padTail 1 + 80 * t.value + 320 ≤ s.outCap →
        s.operation = .next
          (if s.inEod then (if s.inLen < 128 * t.value then .emitFin else .emitEod)
            else .emit (decide (s.inLen < 128 * t.value)))))

/-- R12, R82: the admitted counts are exactly those for which no value of the burst reaches `2^W`. -/
def Obligations.AdmittedSubset : Prop :=
  ∀ (s : State) (count : Nat), s.fits count = true ↔
    s.padFront < 2 ^ s.par.wordBits ∧ s.padTail < 2 ^ s.par.wordBits ∧ max s.padTail 1 < 2 ^ s.par.wordBits ∧
    64 * count < 2 ^ s.par.wordBits ∧ 80 * count < 2 ^ s.par.wordBits ∧
    s.padFront + max s.padTail 1 + 80 * count + 320 < 2 ^ s.par.wordBits

/-- R89 at the level of the step: with no emission in progress and nothing else on the host's agenda, or `HOST_INVOKE` at its
head, a step is `exec` of the selected operation (the order of the agents is log 1). -/
def Obligations.StepRunsSelectedOperation : Prop :=
  (∀ (s : State) (i : Instr), s.job ≠ none ∨ s.agenda = [] → s.operation = .next i → step s = exec i s) ∧
  (∀ (s : State) (rest : List HostStep) (i : Instr), s.job = none → s.agenda = .invoke :: rest →
    s.operation = .next i → step s = exec i { s with agenda := rest })

/-- The decoder and the step agree on every word: a word placed where the step reads it is run (log 12). -/
def Obligations.PlacedWordIsSelected : Prop :=
  ∀ (s : State) (f : Format) (w : Nat) (i : Instr), decodeWord f w = .ok i → s.fits 1 = true →
    (s.withFetchWord f.width w).operation = .next i

/-! ## The operations that move no sample -/

/-- R91: in a terminal state the operation is `NOP_TERM` and writes nothing. -/
def Obligations.TerminalInvocationWritesNothing : Prop :=
  ∀ s : State, s.job = none → (s.fin = true ∨ s.flt = true) →
    ∃ i, s.operation = .next i ∧ ((∃ b, i = .nopTermFin b) ∨ (∃ b, i = .nopTermFlt b)) ∧ exec i s = .next s

/-- R91, the completion of both rows of `NOP_TERM` on every state and with both values of the don't-care bit, with R92 and R95:
the operations without effect. -/
def Obligations.NoEffectOperationsComplete : Prop :=
  ∀ (s : State) (i : Instr), (∃ b, i = .nopTermFin b ∨ i = .nopTermFlt b) ∨ i = .idle ∨
    (∃ b c, i = .waitIn b c ∨ i = .waitOut b c) → exec i s = .next s

/-- R92: no marker and no end of data is `IDLE`, which writes nothing. -/
def Obligations.IdleWritesNothing : Prop :=
  ∀ s : State, Running s → s.sel = none → s.inEod = false →
    s.operation = .next .idle ∧ exec .idle s = .next s

/-- R93: no marker at the end of data is `FINISH`, which sets `OUT_FIN` and `STATUS.FIN` and nothing else. -/
def Obligations.FinishSignalsEnd : Prop :=
  ∀ s : State, Running s → s.sel = none → s.inEod = true →
    s.operation = .next .finish ∧ exec .finish s = .next { s with outFin := true, status := 0b01#2 }

/-- R94, R141, R142, R149: a misplaced marker is `FAULT`, whatever the capacities and the end of data are; it writes
`FLT_CODE`, `FLT_INFO`, `STATUS.FLT` and nothing else. -/
def Obligations.FaultRecordsMisplacedMarker : Prop :=
  ∀ (s : State) (t : TagRec), Running s → Marked s t → t.index ≠ 0 →
    s.operation = .next (.fault s.inEod) ∧
    ∀ e, exec (.fault e) s = .next { s with fltCode := 1, fltInfo := t.index, status := 0b10#2 }

/-- R95: a marker at index 0 with the gate false is `WAIT`, which writes nothing. -/
def Obligations.WaitWritesNothing : Prop :=
  ∀ (s : State) (t : TagRec), Running s → Marked s t → t.index = 0 → s.gate t.value = false →
    ∃ i, s.operation = .next i ∧ ((∃ e o, i = .waitIn e o) ∨ (∃ e r, i = .waitOut e r)) ∧ exec i s = .next s

/-- R89, R81, R82, R145: a count of 0 or one that does not fit is refused at the invocation, wherever the marker is. -/
def Obligations.InadmissibleCountIsRefused : Prop :=
  ∀ (s : State) (t : TagRec), Running s → s.sel = some t →
    (t.value = 0 → invoke s = .refused .countZero) ∧
    (t.value ≠ 0 → s.fits t.value = false → invoke s = .refused .countTooLarge)

/-- R99: no operation but an emission moves data. -/
def Obligations.NoMutationWithoutEmission : Prop :=
  ∀ (s t : State) (i : Instr), s.job = none → s.operation = .next i → exec i s = .next t →
    emits i = false →
    t.out = s.out ∧ (∀ a, memRead t.out a = memRead s.out a) ∧ t.outCap = s.outCap ∧ t.ostream = s.ostream ∧
    t.outTags = s.outTags ∧ t.inn = s.inn ∧ t.inTags = s.inTags ∧ t.inPos = s.inPos ∧ t.outPos = s.outPos ∧
    t.par = s.par ∧ t.rom = s.rom ∧ t.padFront = s.padFront ∧ t.padTail = s.padTail ∧ t.inEod = s.inEod

/-- R100: the gate is monotone in both capacities. -/
def Obligations.GateIsMonotone : Prop :=
  ∀ (s u : State) (count : Nat), u.padFront = s.padFront → max u.padTail 1 = max s.padTail 1 →
    s.inLen ≤ u.inLen → s.outCap ≤ u.outCap → s.gate count = true → u.gate count = true

/-! ## The emission -/

/-- R96, R98, R51: `EMIT` completes, and its next state is the whole layout and commit of one burst; the fresh window and its
size are the free values of log 9 and log 10. -/
def Obligations.EmitFramesBurst : Prop :=
  ∀ (s : State) (t : TagRec), Emittable s t →
    (∀ r, exec (.emit r) s = .next (s.emitted t.value)) ∧ exec .emitEod s = .next (s.emitted t.value)

/-- R97: `EMIT_FIN` does what `EMIT` does and signals the end of data. -/
def Obligations.EmitFinFramesBurstAndSignalsEnd : Prop :=
  ∀ (s : State) (t : TagRec), Emittable s t →
    exec .emitFin s = .next { s.emitted t.value with outFin := true, status := s.status ||| 0b01#2 }

/-- R115: the preamble region of a finished burst equals the table, with no exception. -/
def Obligations.PreambleRegionEqualsTable : Prop :=
  ∀ (s : State) (t : TagRec) (i : Instr), Emittable s t → emits i = true →
    ∃ u, exec i s = .next u ∧
      ∀ n (h : n < 320), u.ostream[s.outPos + s.padFront + n]? = some s.rom[n]

/-- R120: the data samples of every symbol come back unchanged, and so do the prefix samples but the first. -/
def Obligations.SymbolsRoundTrip : Prop :=
  ∀ (s : State) (t : TagRec) (i : Instr), Emittable s t → emits i = true →
    ∃ u, exec i s = .next u ∧ ∀ k, k < t.value →
      (∀ j, j < 64 → u.ostream[s.outPos + (s.padFront + 320 + 80 * k + 16 + j)]? = s.inn[64 * k + j]?) ∧
      (∀ j, 1 ≤ j → j < 16 → u.ostream[s.outPos + (s.padFront + 320 + 80 * k + j)]? = s.inn[64 * k + 48 + j]?)

/-- R131 with general taps: the final values of the blended cells. -/
def Obligations.BlendedCells : Prop :=
  ∀ (s : State) (t : TagRec) (i : Instr), Emittable s t → emits i = true →
    ∃ u, exec i s = .next u ∧
      (∃ a, s.inn[48]? = some a ∧
        ∀ h : s.par.tapPre < 320, u.ostream[s.outPos + (s.padFront + 320)]? = some (s.avg a s.rom[s.par.tapPre])) ∧
      ∀ k, 1 ≤ k → k < t.value → ∃ a b, s.inn[64 * k + 48]? = some a ∧
        s.inn[64 * (k - 1) + (s.par.tapSym + 48) % 64]? = some b ∧
        u.ostream[s.outPos + (s.padFront + 320 + 80 * k)]? = some (s.avg a b)

/-- R105, R107: the padding is zero, and the first tail sample is whatever the window held (a free value where nobody wrote
the cell, log 9). -/
def Obligations.PaddingAndFirstTailSample : Prop :=
  ∀ (s : State) (t : TagRec) (i : Instr), Emittable s t → emits i = true →
    ∃ u, exec i s = .next u ∧
      (∀ n, n < s.padFront → u.ostream[s.outPos + n]? = some s.zero) ∧
      u.ostream[s.outPos + (s.padFront + 320 + 80 * t.value)]? = some (s.cell (s.padFront + 320 + 80 * t.value)) ∧
      (∀ n, 1 ≤ n → n < max s.padTail 1 →
        u.ostream[s.outPos + (s.padFront + 320 + 80 * t.value + n)]? = some s.zero) ∧
      u.outPos = s.outPos + (s.padFront + 320 + 80 * t.value + max s.padTail 1)

/-- R106: `pad_tail = 0` and `pad_tail = 1` are the same machine. -/
def Obligations.PadTailZeroAndOneAgree : Prop :=
  ∀ s : State, s.job = none →
    (∀ t, step { s with padTail := 0, agenda := [] } = .next t →
      step { s with padTail := 1, agenda := [] } = .next { t with padTail := 1 }) ∧
    (∀ t, step { s with padTail := 1, agenda := [] } = .next t →
      step { s with padTail := 0, agenda := [] } = .next { t with padTail := 0 })

/-- R166, R172, D11 and log 19: what the host left in the output window reaches the consumer in the first tail sample only. -/
def Obligations.PriorContentShowsInOneSample : Prop :=
  ∀ (s : State) (t : TagRec) (m : Memory) (i : Instr), Emittable s t → emits i = true →
    ∃ u v, exec i s = .next u ∧ exec i (s.withOut m) = .next v ∧
      (∀ n, n ≠ s.outPos + (s.padFront + 320 + 80 * t.value) → u.ostream[n]? = v.ostream[n]?) ∧
      v = { u with ostream := v.ostream }

/-- R55, R71 and log 2: running the phases one at a time from the latched operands is the emission in one step. -/
def Obligations.PhasesOneByOneAreTheEmission : Prop :=
  ∀ (s : State) (t : TagRec) (e r : Bool), Marked s t →
    Host.Core.run core 10 (s.latched t.value e r) = emission e r s

/-! ## The micro-operations. Each answers a next state in which the output window (or the named fields) and the phase are
all that has changed. -/

/-- R103, with its frame; the phase of the scratch is log 2. -/
def Obligations.PadfWritesZeros : Prop :=
  ∀ s : State, s.padFront ≤ s.outCap →
    ∃ m, exec .padf s = .next ((s.withOut m).toPhase 1) ∧
      ∀ i, memRead m i = if i < s.padFront then some s.zero else memRead s.out i

/-- R114, with its frame; the phase of the scratch is log 2. -/
def Obligations.PreCopiesTable : Prop :=
  ∀ s : State, s.padFront + 320 ≤ s.outCap →
    ∃ m, exec .pre s = .next ((s.withOut m).toPhase 2) ∧
      (∀ i (h : i < 320), memRead m (s.padFront + i) = some s.rom[i]) ∧
      ∀ i, i < s.padFront ∨ s.padFront + 320 ≤ i → memRead m i = memRead s.out i

/-- R117, R118, with its frame; the phase of the scratch is log 2. -/
def Obligations.CpsymWritesSpans : Prop :=
  ∀ (s : State) (j : Job), s.job = some j → 64 * j.count ≤ s.inLen → s.padFront + 320 + 80 * j.count ≤ s.outCap →
    ∃ m, exec .cpsym s = .next ((s.withOut m).toPhase 3) ∧
      (∀ k, k < j.count → ∀ n, n < 80 →
        memRead m (s.padFront + 320 + 80 * k + n) = s.inn[64 * k + (n + 48) % 64]?) ∧
      ∀ i, i < s.padFront + 320 ∨ s.padFront + 320 + 80 * j.count ≤ i → memRead m i = memRead s.out i

/-- R123, with its frame; the phase of the scratch is log 2. -/
def Obligations.Win0BlendsPreambleSeam : Prop :=
  ∀ s : State, s.padFront + 320 < s.outCap → (h : s.par.tapPre < 320) →
    ∃ m, exec .win0 s = .next ((s.withOut m).toPhase 4) ∧
      memRead m (s.padFront + 320) = some (s.avg (s.cell (s.padFront + 320)) s.rom[s.par.tapPre]) ∧
      ∀ i, i ≠ s.padFront + 320 → memRead m i = memRead s.out i

/-- R124, R129, with its frame (the phase of the scratch is log 2): every partner is read as it was before the phase. -/
def Obligations.WinkBlendsSymbolSeams : Prop :=
  ∀ (s : State) (j : Job), s.job = some j → s.par.Ok → s.padFront + 320 + 80 * j.count ≤ s.outCap →
    ∃ m, exec .wink s = .next ((s.withOut m).toPhase 5) ∧
      (∀ k, 1 ≤ k → k < j.count →
        memRead m (s.padFront + 320 + 80 * k) =
          some (s.avg (s.cell (s.padFront + 320 + 80 * k)) (s.cell (s.padFront + 320 + 80 * (k - 1) + s.par.tapSym)))) ∧
      ∀ i, (∀ k, 1 ≤ k → k < j.count → i ≠ s.padFront + 320 + 80 * k) → memRead m i = memRead s.out i

/-- R104, R105, with its frame (the phase of the scratch is log 2): the first tail cell is among the cells left alone, and with
`PT = 1` nothing is written, whatever the window. -/
def Obligations.PadtLeavesFirstTailCell : Prop :=
  ∀ (s : State) (j : Job), s.job = some j →
    s.padTail < 2 ∨ s.padFront + 320 + 80 * j.count + max s.padTail 1 ≤ s.outCap →
    ∃ m, exec .padt s = .next ((s.withOut m).toPhase 6) ∧
      ∀ i, memRead m i =
        if s.padFront + 320 + 80 * j.count + 1 ≤ i ∧ i < s.padFront + 320 + 80 * j.count + max s.padTail 1
        then some s.zero else memRead s.out i

/-- R132, R59, with its frame; the phase of the scratch is log 2. -/
def Obligations.ConsumeRebases : Prop :=
  ∀ (s : State) (j : Job), s.job = some j → 64 * j.count ≤ s.inLen →
    exec .consume s = .next (State.toPhase { s with
      inn := s.inn.drop (64 * j.count)
      inTags := s.inTags.filterMap fun t =>
        if t.index < 64 * j.count then none else some { t with index := t.index - 64 * j.count }
      inPos := s.inPos + 64 * j.count } 7)

/-- R134, R61, with its frame; the phase of the scratch is log 2. -/
def Obligations.TagoutMarksBurst : Prop :=
  ∀ (s : State) (j : Job), s.job = some j → 0 < s.outCap →
    exec .tagout s = .next (State.toPhase { s with outTags := s.outTags ++
      [{ index := s.ostream.length, kind := .burstBoundary,
         value := s.padFront + max s.padTail 1 + 80 * j.count + 320 }] } 8)

/-- R133, R60, with its frame; the new window is the free value of log 9, its size that of log 10, the phase of the scratch is
log 2. -/
def Obligations.ProduceAppendsBurst : Prop :=
  ∀ (s : State) (j : Job), s.job = some j → s.padFront + max s.padTail 1 + 80 * j.count + 320 ≤ s.outCap →
    ∃ vs, exec .produce s = .next (State.toPhase { s with
        ostream := s.ostream ++ vs, outCap := min (Config.freeCap s.draws) s.par.outCap, out := [],
        draws := s.draws + 1 } 9) ∧
      vs.length = s.padFront + max s.padTail 1 + 80 * j.count + 320 ∧
      ∀ i, i < vs.length → vs[i]? = some (s.cell i)

/-- R135, with its frame; the end of the scratch is log 2. -/
def Obligations.EodchkSignalsLastBurst : Prop :=
  ∀ (s : State) (j : Job), s.job = some j →
    (j.e = true → j.r = true →
      exec .eodchk s = .next { s with outFin := true, status := s.status ||| 0b01#2, job := none }) ∧
    (¬ (j.e = true ∧ j.r = true) → exec .eodchk s = .next { s with job := none })

/-- Log 15: outside an emission the micro-operations whose operands are latched are refused. -/
def Obligations.LatchedOperandsNeeded : Prop :=
  ∀ (s : State) (i : Instr), s.job = none →
    i = .cpsym ∨ i = .wink ∨ i = .padt ∨ i = .consume ∨ i = .tagout ∨ i = .produce ∨ i = .eodchk →
    exec i s = .refused .noEmission

/-- R45 and log 17: a micro-operation that would leave a space stops with the fault of that space. `CPSYM` meets the bound of the
input window first where that window holds no more whole symbols than the output window has spans for, since it reads a symbol
before it writes it (R117). -/
def Obligations.AccessOutsideSpaceFaults : Prop :=
  (∀ s : State,
    (s.outCap < s.padFront → exec .padf s = .fault (.outsideSpace .out)) ∧
    (s.outCap < s.padFront + 320 → exec .pre s = .fault (.outsideSpace .out)) ∧
    (s.outCap ≤ s.padFront + 320 → exec .win0 s = .fault (.outsideSpace .out)) ∧
    (s.padFront + 320 < s.outCap → 320 ≤ s.par.tapPre → exec .win0 s = .fault (.outsideSpace .rom))) ∧
  (∀ (s : State) (j : Job), s.job = some j →
    (s.inLen / 64 < j.count → s.inLen / 64 ≤ (s.outCap - (s.padFront + 320)) / 80 →
      exec .cpsym s = .fault (.outsideSpace .inp)) ∧
    ((s.outCap - (s.padFront + 320)) / 80 < j.count → (s.outCap - (s.padFront + 320)) / 80 < s.inLen / 64 →
      exec .cpsym s = .fault (.outsideSpace .out)) ∧
    (∀ k, 1 ≤ k → k < j.count →
      s.outCap ≤ s.padFront + 320 + 80 * k ∨ s.outCap ≤ s.padFront + 320 + 80 * (k - 1) + s.par.tapSym →
      exec .wink s = .fault (.outsideSpace .out)) ∧
    (2 ≤ s.padTail → s.outCap < s.padFront + 320 + 80 * j.count + s.padTail →
      exec .padt s = .fault (.outsideSpace .out)) ∧
    (s.inLen < 64 * j.count → exec .consume s = .fault (.outsideSpace .inp)) ∧
    (s.outCap = 0 → exec .tagout s = .fault (.outsideSpace .out)) ∧
    (s.outCap < s.padFront + max s.padTail 1 + 80 * j.count + 320 → exec .produce s = .fault (.outsideSpace .out)))

/-! ## The whole machine -/

/-- R38, R34 and the bounds of R23, R26, R27, R29: every step keeps the invariant, host steps included. -/
def Obligations.StepKeepsInvariant : Prop :=
  ∀ s t : State, s.Inv → step s = .next t → t.Inv

/-- The state after construction meets the invariant. -/
def Obligations.ResetMeetsInvariant : Prop :=
  State.reset.Inv

/-- R37, R159, R160 for the values the spec gives; `pad_front = pad_tail = 0` is the choice of log 11. -/
def Obligations.ResetValues : Prop :=
  State.reset.fsm = some .run ∧ State.reset.fltCode = 0 ∧ State.reset.fltInfo = 0 ∧ State.reset.inLen = 0 ∧
  State.reset.inTags = [] ∧ State.reset.inEod = false ∧ State.reset.ostream = [] ∧ State.reset.outTags = [] ∧
  State.reset.outFin = false ∧ State.reset.inPos = 0 ∧ State.reset.outPos = 0 ∧ State.reset.rom = Config.preamble ∧
  (∀ i, State.reset.cell i = Config.freeCell State.reset.draws i)

/-- R45: inside a step of a machine that meets the invariant no access leaves a space. -/
def Obligations.NoAccessFault : Prop :=
  ∀ (s : State) (e : Fault), s.Inv → step s ≠ .fault e

/-- R19, R112: no step writes the parameters or the ROM, and only a new construction writes the configuration. -/
def Obligations.ConfigurationIsReadOnly : Prop :=
  ∀ s t : State, step s = .next t →
    t.par = s.par ∧ t.rom = s.rom ∧
    (s.aboutToConstruct = false → t.padFront = s.padFront ∧ t.padTail = s.padTail)

/-- R20, R22, R28, R62: the status bits, `OUT_FIN` and `IN_EOD` are sticky, and the cause of a fault stays. -/
def Obligations.StatusIsSticky : Prop :=
  ∀ s t : State, step s = .next t → s.aboutToConstruct = false →
    (s.fin = true → t.fin = true) ∧ (s.flt = true → t.flt = true) ∧ (s.outFin = true → t.outFin = true) ∧
    (s.inEod = true → t.inEod = true) ∧
    (s.job = none → s.flt = true → t.fltCode = s.fltCode ∧ t.fltInfo = s.fltInfo)

/-- R30: what has been produced stays. -/
def Obligations.OutputIsAppendOnly : Prop :=
  ∀ s t : State, step s = .next t → s.aboutToConstruct = false →
    s.ostream <+: t.ostream ∧ s.outTags <+: t.outTags

/-- R139: `OUT_FIN` is set by `FINISH` and by `EMIT_FIN`, and by no other operation. -/
def Obligations.FinishedComesFromTwoOperations : Prop :=
  ∀ (s t : State) (i : Instr), s.job = none → s.operation = .next i → exec i s = .next t →
    (s.outFin = false → t.outFin = true → i = .finish ∨ i = .emitFin) ∧ (i = .finish ∨ i = .emitFin → t.outFin = true)

/-- R137 on the output side, with R134: an emission adds exactly one record, at the burst's first sample, carrying its length;
no other operation adds one. -/
def Obligations.OneBoundaryPerBurst : Prop :=
  ∀ (s t : State) (i : Instr), s.job = none → s.operation = .next i → exec i s = .next t →
    (emits i = true →
      t.outTags = s.outTags ++ [{ index := s.outPos, kind := .burstBoundary, value := t.outPos - s.outPos }] ∧
      s.outPos < t.outPos) ∧
    (t.outTags ≠ s.outTags → emits i = true)

/-- R176, with the empty agenda of log 1: an invocation that was `NOP_TERM`, `IDLE` or `WAIT` repeats itself as long as the host only invokes. -/
def Obligations.SpuriousInvocationsAreHarmless : Prop :=
  ∀ (s : State) (i : Instr) (n : Nat), s.job = none → s.agenda = [] → s.operation = .next i →
    ((∃ b, i = .nopTermFin b ∨ i = .nopTermFlt b) ∨ i = .idle ∨ ∃ b c, i = .waitIn b c ∨ i = .waitOut b c) →
    Host.Core.run core n s = .next s

/-- R151, R152: from `FAULTED`, with no new construction on the agenda (log 1), the machine stays `FAULTED`, its next operation
is `NOP_TERM`, `OUT_FIN` stays 0, the recorded cause stays as it was, and nothing is produced. -/
def Obligations.FaultedIsAbsorbing : Prop :=
  ∀ (n : Nat) (s t : State), s.Inv → s.flt = true → (∀ p pt, HostStep.construct p pt ∉ s.agenda) →
    Host.Core.run core n s = .next t →
    t.fsm = some .faulted ∧ t.operation = .next (.nopTermFlt false) ∧ t.outFin = false ∧ t.fltInfo = s.fltInfo ∧ t.ostream = s.ostream ∧ t.outTags = s.outTags

/-- R168: a burst truncated by the end of data waits for ever, whatever the host does short of a new construction: every
invocation is `WAIT`, the input does not grow, and `OUT_FIN` is not set. -/
def Obligations.TruncatedBurstNeverFinishes : Prop :=
  ∀ (n : Nat) (s t : State) (m : TagRec), Running s → Marked s m → m.index = 0 → s.inLen < 64 * m.value →
    s.inEod = true → (∀ p pt, HostStep.construct p pt ∉ s.agenda) → Host.Core.run core n s = .next t →
    t.fsm = some .run ∧ (∃ o, t.operation = .next (.waitIn true o)) ∧ t.outFin = s.outFin ∧ t.ostream = s.ostream ∧ t.inn = s.inn ∧ t.inTags = s.inTags

/-- R171: at the end of data the emitted burst is framed, `OUT_FIN` is set, and a shorter complete burst behind it is never
framed: its samples stand at the front of the window and stay. -/
def Obligations.EarlyFinishDropsShorterBurst : Prop :=
  ∀ (s : State) (a b : TagRec) (n : Nat), Running s → s.agenda = [] → Emittable s a → s.inEod = true → b ∈ s.inTags →
    b.kind = .burstStart → b.index = 64 * a.value → s.inLen = 64 * a.value + 64 * b.value → b.value < a.value →
    ∃ u, step s = .next u ∧ u.fsm = some .done ∧ u.outFin = true ∧ u.ostream = (s.emitted a.value).ostream ∧
      { b with index := 0 } ∈ u.inTags ∧ u.inn = s.inn.drop (64 * a.value) ∧ u.inLen = 64 * b.value ∧ Host.Core.run core n u = .next u

/-! ## The host -/

/-- R63: `HOST_PUSH`, `HOST_EOD` and `HOST_CAP` do what the table says; cells that stay visible are kept, cells that leave the
window are forgotten (log 24), and the index of a pushed record is not checked (log 18). -/
def Obligations.HostStepsOfTheTable : Prop :=
  ∀ (s : State) (rest : List HostStep), s.job = none →
    (∀ xs ts, s.agenda = .push xs ts :: rest → s.inEod = false → s.inLen + xs.length ≤ s.par.inCap →
      (∀ t ∈ ts, t.index < 2 ^ s.par.wordBits ∧ t.value < 2 ^ s.par.wordBits) →
      step s = .next { s with agenda := rest, inn := s.inn ++ xs, inTags := s.inTags ++ ts }) ∧
    (∀ xs ts, s.agenda = .push xs ts :: rest → s.inEod = true → step s = .refused .pushAfterEod) ∧
    (s.agenda = .eod :: rest → step s = .next { s with agenda := rest, inEod := true }) ∧
    (∀ c, s.agenda = .cap c :: rest → c ≤ s.par.outCap →
      ∃ m, step s = .next { s with agenda := rest, outCap := c, out := m } ∧
        ∀ i, memRead m i = if i < c then memRead s.out i else none)

/-- R159, R162, R37: construction latches its two arguments, puts the FSM in `RUN` and starts with fresh streams (log 20). -/
def Obligations.ConstructionResets : Prop :=
  ∀ (s : State) (rest : List HostStep) (p pt : Nat), s.job = none → s.agenda = .construct p pt :: rest →
    p < 2 ^ s.par.wordBits → pt < 2 ^ s.par.wordBits →
    ∃ t, step s = .next t ∧ t.padFront = p ∧ t.padTail = pt ∧ t.fsm = some .run ∧ t.fltCode = 0 ∧ t.fltInfo = 0 ∧
      t.inLen = 0 ∧ t.inTags = [] ∧ t.inEod = false ∧ t.inPos = 0 ∧ t.ostream = [] ∧ t.outTags = [] ∧ t.outFin = false ∧
      t.outPos = 0 ∧ t.rom = s.rom ∧ t.par = s.par ∧ t.agenda = rest ∧ (∀ i, memRead t.out i = none)

/-! ## The average -/

/-- R128: the default average of two samples, each part by itself, and, as D5 draws it from the formula, commutative wherever
both parts are numbers. -/
def Obligations.AverageCommutes : Prop :=
  ∀ (s : State) (x y : Complex32), s.par.numerics.avg = .halfOfSum →
    s.avg (.b32 x) (.b32 y) =
      .b32 ⟨mul32 0x3f000000 (add32 x.re y.re), mul32 0x3f000000 (add32 x.im y.im)⟩ ∧
    (f32IsNan (add32 x.re y.re) = false → f32IsNan (add32 x.im y.im) = false →
      s.avg (.b32 y) (.b32 x) = s.avg (.b32 x) (.b32 y))

/-- R128: the average is exact whenever the sum is representable and the half of it is. -/
def Obligations.AverageIsExact : Prop :=
  ∀ a b c d : B32, f32IsFinite a = true → f32IsFinite b = true → f32IsFinite c = true → f32IsFinite d = true →
    f32Units a + f32Units b = f32Units d → f32Units d = 2 * f32Units c →
    f32IsFinite (avg32 a b) = true ∧ f32Units (avg32 a b) = f32Units c

/-- R128, R177: an infinite or NaN operand gives an infinite or NaN average. -/
def Obligations.NonFiniteOperandsStayNonFinite : Prop :=
  ∀ a b : B32, f32IsFinite a = false ∨ f32IsFinite b = false → f32IsFinite (avg32 a b) = false
end

