-- ==== Sys2Proof/Laws/State.lean ====
section
/-! SUPPORT. What each named update of the state leaves in each field: one lemma per field per update, so that no proof unfolds
a record update. -/

namespace Sys2Proof.Machine

/-! `withOut` -/

@[simp] theorem State.withOut_par (s : State) (m : Memory) : (s.withOut m).par = s.par := rfl
@[simp] theorem State.withOut_rom (s : State) (m : Memory) : (s.withOut m).rom = s.rom := rfl
@[simp] theorem State.withOut_padFront (s : State) (m : Memory) : (s.withOut m).padFront = s.padFront := rfl
@[simp] theorem State.withOut_padTail (s : State) (m : Memory) : (s.withOut m).padTail = s.padTail := rfl
@[simp] theorem State.withOut_status (s : State) (m : Memory) : (s.withOut m).status = s.status := rfl
@[simp] theorem State.withOut_fltCode (s : State) (m : Memory) : (s.withOut m).fltCode = s.fltCode := rfl
@[simp] theorem State.withOut_fltInfo (s : State) (m : Memory) : (s.withOut m).fltInfo = s.fltInfo := rfl
@[simp] theorem State.withOut_inn (s : State) (m : Memory) : (s.withOut m).inn = s.inn := rfl
@[simp] theorem State.withOut_inTags (s : State) (m : Memory) : (s.withOut m).inTags = s.inTags := rfl
@[simp] theorem State.withOut_inEod (s : State) (m : Memory) : (s.withOut m).inEod = s.inEod := rfl
@[simp] theorem State.withOut_inPos (s : State) (m : Memory) : (s.withOut m).inPos = s.inPos := rfl
@[simp] theorem State.withOut_outCap (s : State) (m : Memory) : (s.withOut m).outCap = s.outCap := rfl
@[simp] theorem State.withOut_out (s : State) (m : Memory) : (s.withOut m).out = m := rfl
@[simp] theorem State.withOut_ostream (s : State) (m : Memory) : (s.withOut m).ostream = s.ostream := rfl
@[simp] theorem State.withOut_outTags (s : State) (m : Memory) : (s.withOut m).outTags = s.outTags := rfl
@[simp] theorem State.withOut_outFin (s : State) (m : Memory) : (s.withOut m).outFin = s.outFin := rfl
@[simp] theorem State.withOut_job (s : State) (m : Memory) : (s.withOut m).job = s.job := rfl
@[simp] theorem State.withOut_agenda (s : State) (m : Memory) : (s.withOut m).agenda = s.agenda := rfl
@[simp] theorem State.withOut_draws (s : State) (m : Memory) : (s.withOut m).draws = s.draws := rfl
@[simp] theorem State.withOut_inLen (s : State) (m : Memory) : (s.withOut m).inLen = s.inLen := rfl
@[simp] theorem State.withOut_outPos (s : State) (m : Memory) : (s.withOut m).outPos = s.outPos := rfl
@[simp] theorem State.withOut_padP (s : State) (m : Memory) : (s.withOut m).padP = s.padP := rfl
@[simp] theorem State.withOut_padT (s : State) (m : Memory) : (s.withOut m).padT = s.padT := rfl
@[simp] theorem State.withOut_zero (s : State) (m : Memory) : (s.withOut m).zero = s.zero := rfl
@[simp] theorem State.withOut_avg (s : State) (m : Memory) : (s.withOut m).avg = s.avg := rfl
@[simp] theorem State.withOut_reqOut (s : State) (m : Memory) (k : Nat) : (s.withOut m).reqOut k = s.reqOut k := rfl
@[simp] theorem State.withOut_tail0 (s : State) (m : Memory) (k : Nat) : (s.withOut m).tail0 k = s.tail0 k := rfl
@[simp] theorem State.withOut_base (s : State) (m : Memory) (k : Nat) : (s.withOut m).base k = s.base k := rfl
@[simp] theorem State.withOut_fin (s : State) (m : Memory) : (s.withOut m).fin = s.fin := rfl
@[simp] theorem State.withOut_flt (s : State) (m : Memory) : (s.withOut m).flt = s.flt := rfl
@[simp] theorem State.withOut_sel (s : State) (m : Memory) : (s.withOut m).sel = s.sel := rfl

/-! `consumed` -/

@[simp] theorem State.consumed_par (s : State) (n : Nat) : (s.consumed n).par = s.par := rfl
@[simp] theorem State.consumed_rom (s : State) (n : Nat) : (s.consumed n).rom = s.rom := rfl
@[simp] theorem State.consumed_padFront (s : State) (n : Nat) : (s.consumed n).padFront = s.padFront := rfl
@[simp] theorem State.consumed_padTail (s : State) (n : Nat) : (s.consumed n).padTail = s.padTail := rfl
@[simp] theorem State.consumed_status (s : State) (n : Nat) : (s.consumed n).status = s.status := rfl
@[simp] theorem State.consumed_fltCode (s : State) (n : Nat) : (s.consumed n).fltCode = s.fltCode := rfl
@[simp] theorem State.consumed_fltInfo (s : State) (n : Nat) : (s.consumed n).fltInfo = s.fltInfo := rfl
@[simp] theorem State.consumed_inn (s : State) (n : Nat) : (s.consumed n).inn = s.inn.drop n := rfl
@[simp] theorem State.consumed_inTags (s : State) (n : Nat) : (s.consumed n).inTags = rebaseTags n s.inTags := rfl
@[simp] theorem State.consumed_inEod (s : State) (n : Nat) : (s.consumed n).inEod = s.inEod := rfl
@[simp] theorem State.consumed_inPos (s : State) (n : Nat) : (s.consumed n).inPos = s.inPos + n := rfl
@[simp] theorem State.consumed_outCap (s : State) (n : Nat) : (s.consumed n).outCap = s.outCap := rfl
@[simp] theorem State.consumed_out (s : State) (n : Nat) : (s.consumed n).out = s.out := rfl
@[simp] theorem State.consumed_ostream (s : State) (n : Nat) : (s.consumed n).ostream = s.ostream := rfl
@[simp] theorem State.consumed_outTags (s : State) (n : Nat) : (s.consumed n).outTags = s.outTags := rfl
@[simp] theorem State.consumed_outFin (s : State) (n : Nat) : (s.consumed n).outFin = s.outFin := rfl
@[simp] theorem State.consumed_job (s : State) (n : Nat) : (s.consumed n).job = s.job := rfl
@[simp] theorem State.consumed_agenda (s : State) (n : Nat) : (s.consumed n).agenda = s.agenda := rfl
@[simp] theorem State.consumed_draws (s : State) (n : Nat) : (s.consumed n).draws = s.draws := rfl
@[simp] theorem State.consumed_outPos (s : State) (n : Nat) : (s.consumed n).outPos = s.outPos := rfl
@[simp] theorem State.consumed_padP (s : State) (n : Nat) : (s.consumed n).padP = s.padP := rfl
@[simp] theorem State.consumed_padT (s : State) (n : Nat) : (s.consumed n).padT = s.padT := rfl
@[simp] theorem State.consumed_zero (s : State) (n : Nat) : (s.consumed n).zero = s.zero := rfl
@[simp] theorem State.consumed_avg (s : State) (n : Nat) : (s.consumed n).avg = s.avg := rfl
@[simp] theorem State.consumed_reqOut (s : State) (n : Nat) (k : Nat) : (s.consumed n).reqOut k = s.reqOut k := rfl
@[simp] theorem State.consumed_tail0 (s : State) (n : Nat) (k : Nat) : (s.consumed n).tail0 k = s.tail0 k := rfl
@[simp] theorem State.consumed_base (s : State) (n : Nat) (k : Nat) : (s.consumed n).base k = s.base k := rfl
@[simp] theorem State.consumed_fin (s : State) (n : Nat) : (s.consumed n).fin = s.fin := rfl
@[simp] theorem State.consumed_flt (s : State) (n : Nat) : (s.consumed n).flt = s.flt := rfl
@[simp] theorem State.consumed_cell (s : State) (n : Nat) (i : Nat) : (s.consumed n).cell i = s.cell i := rfl

/-! `produced` -/

@[simp] theorem State.produced_par (s : State) (n : Nat) : (s.produced n).par = s.par := rfl
@[simp] theorem State.produced_rom (s : State) (n : Nat) : (s.produced n).rom = s.rom := rfl
@[simp] theorem State.produced_padFront (s : State) (n : Nat) : (s.produced n).padFront = s.padFront := rfl
@[simp] theorem State.produced_padTail (s : State) (n : Nat) : (s.produced n).padTail = s.padTail := rfl
@[simp] theorem State.produced_status (s : State) (n : Nat) : (s.produced n).status = s.status := rfl
@[simp] theorem State.produced_fltCode (s : State) (n : Nat) : (s.produced n).fltCode = s.fltCode := rfl
@[simp] theorem State.produced_fltInfo (s : State) (n : Nat) : (s.produced n).fltInfo = s.fltInfo := rfl
@[simp] theorem State.produced_inn (s : State) (n : Nat) : (s.produced n).inn = s.inn := rfl
@[simp] theorem State.produced_inTags (s : State) (n : Nat) : (s.produced n).inTags = s.inTags := rfl
@[simp] theorem State.produced_inEod (s : State) (n : Nat) : (s.produced n).inEod = s.inEod := rfl
@[simp] theorem State.produced_inPos (s : State) (n : Nat) : (s.produced n).inPos = s.inPos := rfl
@[simp] theorem State.produced_outCap (s : State) (n : Nat) : (s.produced n).outCap = s.nextCap := rfl
@[simp] theorem State.produced_out (s : State) (n : Nat) : (s.produced n).out = [] := rfl
@[simp] theorem State.produced_ostream (s : State) (n : Nat) : (s.produced n).ostream = s.ostream ++ s.firstCells n := rfl
@[simp] theorem State.produced_outTags (s : State) (n : Nat) : (s.produced n).outTags = s.outTags := rfl
@[simp] theorem State.produced_outFin (s : State) (n : Nat) : (s.produced n).outFin = s.outFin := rfl
@[simp] theorem State.produced_job (s : State) (n : Nat) : (s.produced n).job = s.job := rfl
@[simp] theorem State.produced_agenda (s : State) (n : Nat) : (s.produced n).agenda = s.agenda := rfl
@[simp] theorem State.produced_draws (s : State) (n : Nat) : (s.produced n).draws = s.draws + 1 := rfl
@[simp] theorem State.produced_inLen (s : State) (n : Nat) : (s.produced n).inLen = s.inLen := rfl
@[simp] theorem State.produced_padP (s : State) (n : Nat) : (s.produced n).padP = s.padP := rfl
@[simp] theorem State.produced_padT (s : State) (n : Nat) : (s.produced n).padT = s.padT := rfl
@[simp] theorem State.produced_zero (s : State) (n : Nat) : (s.produced n).zero = s.zero := rfl
@[simp] theorem State.produced_avg (s : State) (n : Nat) : (s.produced n).avg = s.avg := rfl
@[simp] theorem State.produced_reqOut (s : State) (n : Nat) (k : Nat) : (s.produced n).reqOut k = s.reqOut k := rfl
@[simp] theorem State.produced_tail0 (s : State) (n : Nat) (k : Nat) : (s.produced n).tail0 k = s.tail0 k := rfl
@[simp] theorem State.produced_base (s : State) (n : Nat) (k : Nat) : (s.produced n).base k = s.base k := rfl
@[simp] theorem State.produced_fin (s : State) (n : Nat) : (s.produced n).fin = s.fin := rfl
@[simp] theorem State.produced_flt (s : State) (n : Nat) : (s.produced n).flt = s.flt := rfl
@[simp] theorem State.produced_sel (s : State) (n : Nat) : (s.produced n).sel = s.sel := rfl

/-! `tagged` -/

@[simp] theorem State.tagged_par (s : State) (off v : Nat) : (s.tagged off v).par = s.par := rfl
@[simp] theorem State.tagged_rom (s : State) (off v : Nat) : (s.tagged off v).rom = s.rom := rfl
@[simp] theorem State.tagged_padFront (s : State) (off v : Nat) : (s.tagged off v).padFront = s.padFront := rfl
@[simp] theorem State.tagged_padTail (s : State) (off v : Nat) : (s.tagged off v).padTail = s.padTail := rfl
@[simp] theorem State.tagged_status (s : State) (off v : Nat) : (s.tagged off v).status = s.status := rfl
@[simp] theorem State.tagged_fltCode (s : State) (off v : Nat) : (s.tagged off v).fltCode = s.fltCode := rfl
@[simp] theorem State.tagged_fltInfo (s : State) (off v : Nat) : (s.tagged off v).fltInfo = s.fltInfo := rfl
@[simp] theorem State.tagged_inn (s : State) (off v : Nat) : (s.tagged off v).inn = s.inn := rfl
@[simp] theorem State.tagged_inTags (s : State) (off v : Nat) : (s.tagged off v).inTags = s.inTags := rfl
@[simp] theorem State.tagged_inEod (s : State) (off v : Nat) : (s.tagged off v).inEod = s.inEod := rfl
@[simp] theorem State.tagged_inPos (s : State) (off v : Nat) : (s.tagged off v).inPos = s.inPos := rfl
@[simp] theorem State.tagged_outCap (s : State) (off v : Nat) : (s.tagged off v).outCap = s.outCap := rfl
@[simp] theorem State.tagged_out (s : State) (off v : Nat) : (s.tagged off v).out = s.out := rfl
@[simp] theorem State.tagged_ostream (s : State) (off v : Nat) : (s.tagged off v).ostream = s.ostream := rfl
@[simp] theorem State.tagged_outTags (s : State) (off v : Nat) :
    (s.tagged off v).outTags = s.outTags ++ [{ index := s.outPos + off, kind := .burstBoundary, value := v }] := rfl
@[simp] theorem State.tagged_outFin (s : State) (off v : Nat) : (s.tagged off v).outFin = s.outFin := rfl
@[simp] theorem State.tagged_job (s : State) (off v : Nat) : (s.tagged off v).job = s.job := rfl
@[simp] theorem State.tagged_agenda (s : State) (off v : Nat) : (s.tagged off v).agenda = s.agenda := rfl
@[simp] theorem State.tagged_draws (s : State) (off v : Nat) : (s.tagged off v).draws = s.draws := rfl
@[simp] theorem State.tagged_inLen (s : State) (off v : Nat) : (s.tagged off v).inLen = s.inLen := rfl
@[simp] theorem State.tagged_outPos (s : State) (off v : Nat) : (s.tagged off v).outPos = s.outPos := rfl
@[simp] theorem State.tagged_padP (s : State) (off v : Nat) : (s.tagged off v).padP = s.padP := rfl
@[simp] theorem State.tagged_padT (s : State) (off v : Nat) : (s.tagged off v).padT = s.padT := rfl
@[simp] theorem State.tagged_zero (s : State) (off v : Nat) : (s.tagged off v).zero = s.zero := rfl
@[simp] theorem State.tagged_avg (s : State) (off v : Nat) : (s.tagged off v).avg = s.avg := rfl
@[simp] theorem State.tagged_reqOut (s : State) (off v : Nat) (k : Nat) : (s.tagged off v).reqOut k = s.reqOut k := rfl
@[simp] theorem State.tagged_tail0 (s : State) (off v : Nat) (k : Nat) : (s.tagged off v).tail0 k = s.tail0 k := rfl
@[simp] theorem State.tagged_base (s : State) (off v : Nat) (k : Nat) : (s.tagged off v).base k = s.base k := rfl
@[simp] theorem State.tagged_fin (s : State) (off v : Nat) : (s.tagged off v).fin = s.fin := rfl
@[simp] theorem State.tagged_flt (s : State) (off v : Nat) : (s.tagged off v).flt = s.flt := rfl
@[simp] theorem State.tagged_sel (s : State) (off v : Nat) : (s.tagged off v).sel = s.sel := rfl
@[simp] theorem State.tagged_cell (s : State) (off v : Nat) (i : Nat) : (s.tagged off v).cell i = s.cell i := rfl

/-! `setFinished` -/

@[simp] theorem State.setFinished_par (s : State) : (s.setFinished).par = s.par := rfl
@[simp] theorem State.setFinished_rom (s : State) : (s.setFinished).rom = s.rom := rfl
@[simp] theorem State.setFinished_padFront (s : State) : (s.setFinished).padFront = s.padFront := rfl
@[simp] theorem State.setFinished_padTail (s : State) : (s.setFinished).padTail = s.padTail := rfl
@[simp] theorem State.setFinished_status (s : State) : (s.setFinished).status = s.status := rfl
@[simp] theorem State.setFinished_fltCode (s : State) : (s.setFinished).fltCode = s.fltCode := rfl
@[simp] theorem State.setFinished_fltInfo (s : State) : (s.setFinished).fltInfo = s.fltInfo := rfl
@[simp] theorem State.setFinished_inn (s : State) : (s.setFinished).inn = s.inn := rfl
@[simp] theorem State.setFinished_inTags (s : State) : (s.setFinished).inTags = s.inTags := rfl
@[simp] theorem State.setFinished_inEod (s : State) : (s.setFinished).inEod = s.inEod := rfl
@[simp] theorem State.setFinished_inPos (s : State) : (s.setFinished).inPos = s.inPos := rfl
@[simp] theorem State.setFinished_outCap (s : State) : (s.setFinished).outCap = s.outCap := rfl
@[simp] theorem State.setFinished_out (s : State) : (s.setFinished).out = s.out := rfl
@[simp] theorem State.setFinished_ostream (s : State) : (s.setFinished).ostream = s.ostream := rfl
@[simp] theorem State.setFinished_outTags (s : State) : (s.setFinished).outTags = s.outTags := rfl
@[simp] theorem State.setFinished_outFin (s : State) : (s.setFinished).outFin = true := rfl
@[simp] theorem State.setFinished_job (s : State) : (s.setFinished).job = s.job := rfl
@[simp] theorem State.setFinished_agenda (s : State) : (s.setFinished).agenda = s.agenda := rfl
@[simp] theorem State.setFinished_draws (s : State) : (s.setFinished).draws = s.draws := rfl
@[simp] theorem State.setFinished_inLen (s : State) : (s.setFinished).inLen = s.inLen := rfl
@[simp] theorem State.setFinished_outPos (s : State) : (s.setFinished).outPos = s.outPos := rfl
@[simp] theorem State.setFinished_padP (s : State) : (s.setFinished).padP = s.padP := rfl
@[simp] theorem State.setFinished_padT (s : State) : (s.setFinished).padT = s.padT := rfl
@[simp] theorem State.setFinished_zero (s : State) : (s.setFinished).zero = s.zero := rfl
@[simp] theorem State.setFinished_avg (s : State) : (s.setFinished).avg = s.avg := rfl
@[simp] theorem State.setFinished_reqOut (s : State) (k : Nat) : (s.setFinished).reqOut k = s.reqOut k := rfl
@[simp] theorem State.setFinished_tail0 (s : State) (k : Nat) : (s.setFinished).tail0 k = s.tail0 k := rfl
@[simp] theorem State.setFinished_base (s : State) (k : Nat) : (s.setFinished).base k = s.base k := rfl
@[simp] theorem State.setFinished_fin (s : State) : (s.setFinished).fin = s.fin := rfl
@[simp] theorem State.setFinished_flt (s : State) : (s.setFinished).flt = s.flt := rfl
@[simp] theorem State.setFinished_sel (s : State) : (s.setFinished).sel = s.sel := rfl
@[simp] theorem State.setFinished_cell (s : State) (i : Nat) : (s.setFinished).cell i = s.cell i := rfl

/-! `setFin` -/

@[simp] theorem State.setFin_par (s : State) : (s.setFin).par = s.par := rfl
@[simp] theorem State.setFin_rom (s : State) : (s.setFin).rom = s.rom := rfl
@[simp] theorem State.setFin_padFront (s : State) : (s.setFin).padFront = s.padFront := rfl
@[simp] theorem State.setFin_padTail (s : State) : (s.setFin).padTail = s.padTail := rfl
@[simp] theorem State.setFin_status (s : State) : (s.setFin).status = s.status ||| 1#2 := rfl
@[simp] theorem State.setFin_fltCode (s : State) : (s.setFin).fltCode = s.fltCode := rfl
@[simp] theorem State.setFin_fltInfo (s : State) : (s.setFin).fltInfo = s.fltInfo := rfl
@[simp] theorem State.setFin_inn (s : State) : (s.setFin).inn = s.inn := rfl
@[simp] theorem State.setFin_inTags (s : State) : (s.setFin).inTags = s.inTags := rfl
@[simp] theorem State.setFin_inEod (s : State) : (s.setFin).inEod = s.inEod := rfl
@[simp] theorem State.setFin_inPos (s : State) : (s.setFin).inPos = s.inPos := rfl
@[simp] theorem State.setFin_outCap (s : State) : (s.setFin).outCap = s.outCap := rfl
@[simp] theorem State.setFin_out (s : State) : (s.setFin).out = s.out := rfl
@[simp] theorem State.setFin_ostream (s : State) : (s.setFin).ostream = s.ostream := rfl
@[simp] theorem State.setFin_outTags (s : State) : (s.setFin).outTags = s.outTags := rfl
@[simp] theorem State.setFin_outFin (s : State) : (s.setFin).outFin = s.outFin := rfl
@[simp] theorem State.setFin_job (s : State) : (s.setFin).job = s.job := rfl
@[simp] theorem State.setFin_agenda (s : State) : (s.setFin).agenda = s.agenda := rfl
@[simp] theorem State.setFin_draws (s : State) : (s.setFin).draws = s.draws := rfl
@[simp] theorem State.setFin_inLen (s : State) : (s.setFin).inLen = s.inLen := rfl
@[simp] theorem State.setFin_outPos (s : State) : (s.setFin).outPos = s.outPos := rfl
@[simp] theorem State.setFin_padP (s : State) : (s.setFin).padP = s.padP := rfl
@[simp] theorem State.setFin_padT (s : State) : (s.setFin).padT = s.padT := rfl
@[simp] theorem State.setFin_zero (s : State) : (s.setFin).zero = s.zero := rfl
@[simp] theorem State.setFin_avg (s : State) : (s.setFin).avg = s.avg := rfl
@[simp] theorem State.setFin_reqOut (s : State) (k : Nat) : (s.setFin).reqOut k = s.reqOut k := rfl
@[simp] theorem State.setFin_tail0 (s : State) (k : Nat) : (s.setFin).tail0 k = s.tail0 k := rfl
@[simp] theorem State.setFin_base (s : State) (k : Nat) : (s.setFin).base k = s.base k := rfl
@[simp] theorem State.setFin_sel (s : State) : (s.setFin).sel = s.sel := rfl
@[simp] theorem State.setFin_cell (s : State) (i : Nat) : (s.setFin).cell i = s.cell i := rfl

/-! `raiseFault` -/

@[simp] theorem State.raiseFault_par (s : State) (c : BitVec 8) (n : Nat) : (s.raiseFault c n).par = s.par := rfl
@[simp] theorem State.raiseFault_rom (s : State) (c : BitVec 8) (n : Nat) : (s.raiseFault c n).rom = s.rom := rfl
@[simp] theorem State.raiseFault_padFront (s : State) (c : BitVec 8) (n : Nat) :
    (s.raiseFault c n).padFront = s.padFront := rfl
@[simp] theorem State.raiseFault_padTail (s : State) (c : BitVec 8) (n : Nat) :
    (s.raiseFault c n).padTail = s.padTail := rfl
@[simp] theorem State.raiseFault_status (s : State) (c : BitVec 8) (n : Nat) :
    (s.raiseFault c n).status = s.status ||| 2#2 := rfl
@[simp] theorem State.raiseFault_fltCode (s : State) (c : BitVec 8) (n : Nat) : (s.raiseFault c n).fltCode = c := rfl
@[simp] theorem State.raiseFault_fltInfo (s : State) (c : BitVec 8) (n : Nat) : (s.raiseFault c n).fltInfo = n := rfl
@[simp] theorem State.raiseFault_inn (s : State) (c : BitVec 8) (n : Nat) : (s.raiseFault c n).inn = s.inn := rfl
@[simp] theorem State.raiseFault_inTags (s : State) (c : BitVec 8) (n : Nat) : (s.raiseFault c n).inTags = s.inTags := rfl
@[simp] theorem State.raiseFault_inEod (s : State) (c : BitVec 8) (n : Nat) : (s.raiseFault c n).inEod = s.inEod := rfl
@[simp] theorem State.raiseFault_inPos (s : State) (c : BitVec 8) (n : Nat) : (s.raiseFault c n).inPos = s.inPos := rfl
@[simp] theorem State.raiseFault_outCap (s : State) (c : BitVec 8) (n : Nat) : (s.raiseFault c n).outCap = s.outCap := rfl
@[simp] theorem State.raiseFault_out (s : State) (c : BitVec 8) (n : Nat) : (s.raiseFault c n).out = s.out := rfl
@[simp] theorem State.raiseFault_ostream (s : State) (c : BitVec 8) (n : Nat) :
    (s.raiseFault c n).ostream = s.ostream := rfl
@[simp] theorem State.raiseFault_outTags (s : State) (c : BitVec 8) (n : Nat) :
    (s.raiseFault c n).outTags = s.outTags := rfl
@[simp] theorem State.raiseFault_outFin (s : State) (c : BitVec 8) (n : Nat) : (s.raiseFault c n).outFin = s.outFin := rfl
@[simp] theorem State.raiseFault_job (s : State) (c : BitVec 8) (n : Nat) : (s.raiseFault c n).job = s.job := rfl
@[simp] theorem State.raiseFault_agenda (s : State) (c : BitVec 8) (n : Nat) : (s.raiseFault c n).agenda = s.agenda := rfl
@[simp] theorem State.raiseFault_draws (s : State) (c : BitVec 8) (n : Nat) : (s.raiseFault c n).draws = s.draws := rfl
@[simp] theorem State.raiseFault_inLen (s : State) (c : BitVec 8) (n : Nat) : (s.raiseFault c n).inLen = s.inLen := rfl
@[simp] theorem State.raiseFault_outPos (s : State) (c : BitVec 8) (n : Nat) : (s.raiseFault c n).outPos = s.outPos := rfl
@[simp] theorem State.raiseFault_padP (s : State) (c : BitVec 8) (n : Nat) : (s.raiseFault c n).padP = s.padP := rfl
@[simp] theorem State.raiseFault_padT (s : State) (c : BitVec 8) (n : Nat) : (s.raiseFault c n).padT = s.padT := rfl
@[simp] theorem State.raiseFault_zero (s : State) (c : BitVec 8) (n : Nat) : (s.raiseFault c n).zero = s.zero := rfl
@[simp] theorem State.raiseFault_avg (s : State) (c : BitVec 8) (n : Nat) : (s.raiseFault c n).avg = s.avg := rfl
@[simp] theorem State.raiseFault_reqOut (s : State) (c : BitVec 8) (n : Nat) (k : Nat) : (s.raiseFault c n).reqOut k = s.reqOut k := rfl
@[simp] theorem State.raiseFault_tail0 (s : State) (c : BitVec 8) (n : Nat) (k : Nat) : (s.raiseFault c n).tail0 k = s.tail0 k := rfl
@[simp] theorem State.raiseFault_base (s : State) (c : BitVec 8) (n : Nat) (k : Nat) : (s.raiseFault c n).base k = s.base k := rfl
@[simp] theorem State.raiseFault_sel (s : State) (c : BitVec 8) (n : Nat) : (s.raiseFault c n).sel = s.sel := rfl
@[simp] theorem State.raiseFault_cell (s : State) (c : BitVec 8) (n : Nat) (i : Nat) : (s.raiseFault c n).cell i = s.cell i := rfl

/-! `latched` -/

@[simp] theorem State.latched_par (s : State) (n : Nat) (e r : Bool) : (s.latched n e r).par = s.par := rfl
@[simp] theorem State.latched_rom (s : State) (n : Nat) (e r : Bool) : (s.latched n e r).rom = s.rom := rfl
@[simp] theorem State.latched_padFront (s : State) (n : Nat) (e r : Bool) : (s.latched n e r).padFront = s.padFront := rfl
@[simp] theorem State.latched_padTail (s : State) (n : Nat) (e r : Bool) : (s.latched n e r).padTail = s.padTail := rfl
@[simp] theorem State.latched_status (s : State) (n : Nat) (e r : Bool) : (s.latched n e r).status = s.status := rfl
@[simp] theorem State.latched_fltCode (s : State) (n : Nat) (e r : Bool) : (s.latched n e r).fltCode = s.fltCode := rfl
@[simp] theorem State.latched_fltInfo (s : State) (n : Nat) (e r : Bool) : (s.latched n e r).fltInfo = s.fltInfo := rfl
@[simp] theorem State.latched_inn (s : State) (n : Nat) (e r : Bool) : (s.latched n e r).inn = s.inn := rfl
@[simp] theorem State.latched_inTags (s : State) (n : Nat) (e r : Bool) : (s.latched n e r).inTags = s.inTags := rfl
@[simp] theorem State.latched_inEod (s : State) (n : Nat) (e r : Bool) : (s.latched n e r).inEod = s.inEod := rfl
@[simp] theorem State.latched_inPos (s : State) (n : Nat) (e r : Bool) : (s.latched n e r).inPos = s.inPos := rfl
@[simp] theorem State.latched_outCap (s : State) (n : Nat) (e r : Bool) : (s.latched n e r).outCap = s.outCap := rfl
@[simp] theorem State.latched_out (s : State) (n : Nat) (e r : Bool) : (s.latched n e r).out = s.out := rfl
@[simp] theorem State.latched_ostream (s : State) (n : Nat) (e r : Bool) : (s.latched n e r).ostream = s.ostream := rfl
@[simp] theorem State.latched_outTags (s : State) (n : Nat) (e r : Bool) : (s.latched n e r).outTags = s.outTags := rfl
@[simp] theorem State.latched_outFin (s : State) (n : Nat) (e r : Bool) : (s.latched n e r).outFin = s.outFin := rfl
@[simp] theorem State.latched_job (s : State) (n : Nat) (e r : Bool) :
    (s.latched n e r).job = some { phase := 0, count := n, e := e, r := r } := rfl
@[simp] theorem State.latched_agenda (s : State) (n : Nat) (e r : Bool) : (s.latched n e r).agenda = s.agenda := rfl
@[simp] theorem State.latched_draws (s : State) (n : Nat) (e r : Bool) : (s.latched n e r).draws = s.draws := rfl
@[simp] theorem State.latched_inLen (s : State) (n : Nat) (e r : Bool) : (s.latched n e r).inLen = s.inLen := rfl
@[simp] theorem State.latched_outPos (s : State) (n : Nat) (e r : Bool) : (s.latched n e r).outPos = s.outPos := rfl
@[simp] theorem State.latched_padP (s : State) (n : Nat) (e r : Bool) : (s.latched n e r).padP = s.padP := rfl
@[simp] theorem State.latched_padT (s : State) (n : Nat) (e r : Bool) : (s.latched n e r).padT = s.padT := rfl
@[simp] theorem State.latched_zero (s : State) (n : Nat) (e r : Bool) : (s.latched n e r).zero = s.zero := rfl
@[simp] theorem State.latched_avg (s : State) (n : Nat) (e r : Bool) : (s.latched n e r).avg = s.avg := rfl
@[simp] theorem State.latched_reqOut (s : State) (n : Nat) (e r : Bool) (k : Nat) : (s.latched n e r).reqOut k = s.reqOut k := rfl
@[simp] theorem State.latched_tail0 (s : State) (n : Nat) (e r : Bool) (k : Nat) : (s.latched n e r).tail0 k = s.tail0 k := rfl
@[simp] theorem State.latched_base (s : State) (n : Nat) (e r : Bool) (k : Nat) : (s.latched n e r).base k = s.base k := rfl
@[simp] theorem State.latched_fin (s : State) (n : Nat) (e r : Bool) : (s.latched n e r).fin = s.fin := rfl
@[simp] theorem State.latched_flt (s : State) (n : Nat) (e r : Bool) : (s.latched n e r).flt = s.flt := rfl
@[simp] theorem State.latched_sel (s : State) (n : Nat) (e r : Bool) : (s.latched n e r).sel = s.sel := rfl
@[simp] theorem State.latched_cell (s : State) (n : Nat) (e r : Bool) (i : Nat) : (s.latched n e r).cell i = s.cell i := rfl

/-! `toPhase` -/

@[simp] theorem State.toPhase_par (s : State) (p : BitVec 4) : (s.toPhase p).par = s.par := rfl
@[simp] theorem State.toPhase_rom (s : State) (p : BitVec 4) : (s.toPhase p).rom = s.rom := rfl
@[simp] theorem State.toPhase_padFront (s : State) (p : BitVec 4) : (s.toPhase p).padFront = s.padFront := rfl
@[simp] theorem State.toPhase_padTail (s : State) (p : BitVec 4) : (s.toPhase p).padTail = s.padTail := rfl
@[simp] theorem State.toPhase_status (s : State) (p : BitVec 4) : (s.toPhase p).status = s.status := rfl
@[simp] theorem State.toPhase_fltCode (s : State) (p : BitVec 4) : (s.toPhase p).fltCode = s.fltCode := rfl
@[simp] theorem State.toPhase_fltInfo (s : State) (p : BitVec 4) : (s.toPhase p).fltInfo = s.fltInfo := rfl
@[simp] theorem State.toPhase_inn (s : State) (p : BitVec 4) : (s.toPhase p).inn = s.inn := rfl
@[simp] theorem State.toPhase_inTags (s : State) (p : BitVec 4) : (s.toPhase p).inTags = s.inTags := rfl
@[simp] theorem State.toPhase_inEod (s : State) (p : BitVec 4) : (s.toPhase p).inEod = s.inEod := rfl
@[simp] theorem State.toPhase_inPos (s : State) (p : BitVec 4) : (s.toPhase p).inPos = s.inPos := rfl
@[simp] theorem State.toPhase_outCap (s : State) (p : BitVec 4) : (s.toPhase p).outCap = s.outCap := rfl
@[simp] theorem State.toPhase_out (s : State) (p : BitVec 4) : (s.toPhase p).out = s.out := rfl
@[simp] theorem State.toPhase_ostream (s : State) (p : BitVec 4) : (s.toPhase p).ostream = s.ostream := rfl
@[simp] theorem State.toPhase_outTags (s : State) (p : BitVec 4) : (s.toPhase p).outTags = s.outTags := rfl
@[simp] theorem State.toPhase_outFin (s : State) (p : BitVec 4) : (s.toPhase p).outFin = s.outFin := rfl
@[simp] theorem State.toPhase_job (s : State) (p : BitVec 4) :
    (s.toPhase p).job = s.job.map fun j => { j with phase := p } := rfl
@[simp] theorem State.toPhase_agenda (s : State) (p : BitVec 4) : (s.toPhase p).agenda = s.agenda := rfl
@[simp] theorem State.toPhase_draws (s : State) (p : BitVec 4) : (s.toPhase p).draws = s.draws := rfl
@[simp] theorem State.toPhase_inLen (s : State) (p : BitVec 4) : (s.toPhase p).inLen = s.inLen := rfl
@[simp] theorem State.toPhase_outPos (s : State) (p : BitVec 4) : (s.toPhase p).outPos = s.outPos := rfl
@[simp] theorem State.toPhase_padP (s : State) (p : BitVec 4) : (s.toPhase p).padP = s.padP := rfl
@[simp] theorem State.toPhase_padT (s : State) (p : BitVec 4) : (s.toPhase p).padT = s.padT := rfl
@[simp] theorem State.toPhase_zero (s : State) (p : BitVec 4) : (s.toPhase p).zero = s.zero := rfl
@[simp] theorem State.toPhase_avg (s : State) (p : BitVec 4) : (s.toPhase p).avg = s.avg := rfl
@[simp] theorem State.toPhase_reqOut (s : State) (p : BitVec 4) (k : Nat) : (s.toPhase p).reqOut k = s.reqOut k := rfl
@[simp] theorem State.toPhase_tail0 (s : State) (p : BitVec 4) (k : Nat) : (s.toPhase p).tail0 k = s.tail0 k := rfl
@[simp] theorem State.toPhase_base (s : State) (p : BitVec 4) (k : Nat) : (s.toPhase p).base k = s.base k := rfl
@[simp] theorem State.toPhase_fin (s : State) (p : BitVec 4) : (s.toPhase p).fin = s.fin := rfl
@[simp] theorem State.toPhase_flt (s : State) (p : BitVec 4) : (s.toPhase p).flt = s.flt := rfl
@[simp] theorem State.toPhase_sel (s : State) (p : BitVec 4) : (s.toPhase p).sel = s.sel := rfl
@[simp] theorem State.toPhase_cell (s : State) (p : BitVec 4) (i : Nat) : (s.toPhase p).cell i = s.cell i := rfl

/-! `endEmission` -/

@[simp] theorem State.endEmission_par (s : State) : (s.endEmission).par = s.par := rfl
@[simp] theorem State.endEmission_rom (s : State) : (s.endEmission).rom = s.rom := rfl
@[simp] theorem State.endEmission_padFront (s : State) : (s.endEmission).padFront = s.padFront := rfl
@[simp] theorem State.endEmission_padTail (s : State) : (s.endEmission).padTail = s.padTail := rfl
@[simp] theorem State.endEmission_status (s : State) : (s.endEmission).status = s.status := rfl
@[simp] theorem State.endEmission_fltCode (s : State) : (s.endEmission).fltCode = s.fltCode := rfl
@[simp] theorem State.endEmission_fltInfo (s : State) : (s.endEmission).fltInfo = s.fltInfo := rfl
@[simp] theorem State.endEmission_inn (s : State) : (s.endEmission).inn = s.inn := rfl
@[simp] theorem State.endEmission_inTags (s : State) : (s.endEmission).inTags = s.inTags := rfl
@[simp] theorem State.endEmission_inEod (s : State) : (s.endEmission).inEod = s.inEod := rfl
@[simp] theorem State.endEmission_inPos (s : State) : (s.endEmission).inPos = s.inPos := rfl
@[simp] theorem State.endEmission_outCap (s : State) : (s.endEmission).outCap = s.outCap := rfl
@[simp] theorem State.endEmission_out (s : State) : (s.endEmission).out = s.out := rfl
@[simp] theorem State.endEmission_ostream (s : State) : (s.endEmission).ostream = s.ostream := rfl
@[simp] theorem State.endEmission_outTags (s : State) : (s.endEmission).outTags = s.outTags := rfl
@[simp] theorem State.endEmission_outFin (s : State) : (s.endEmission).outFin = s.outFin := rfl
@[simp] theorem State.endEmission_job (s : State) : (s.endEmission).job = none := rfl
@[simp] theorem State.endEmission_agenda (s : State) : (s.endEmission).agenda = s.agenda := rfl
@[simp] theorem State.endEmission_draws (s : State) : (s.endEmission).draws = s.draws := rfl
@[simp] theorem State.endEmission_inLen (s : State) : (s.endEmission).inLen = s.inLen := rfl
@[simp] theorem State.endEmission_outPos (s : State) : (s.endEmission).outPos = s.outPos := rfl
@[simp] theorem State.endEmission_padP (s : State) : (s.endEmission).padP = s.padP := rfl
@[simp] theorem State.endEmission_padT (s : State) : (s.endEmission).padT = s.padT := rfl
@[simp] theorem State.endEmission_zero (s : State) : (s.endEmission).zero = s.zero := rfl
@[simp] theorem State.endEmission_avg (s : State) : (s.endEmission).avg = s.avg := rfl
@[simp] theorem State.endEmission_reqOut (s : State) (k : Nat) : (s.endEmission).reqOut k = s.reqOut k := rfl
@[simp] theorem State.endEmission_tail0 (s : State) (k : Nat) : (s.endEmission).tail0 k = s.tail0 k := rfl
@[simp] theorem State.endEmission_base (s : State) (k : Nat) : (s.endEmission).base k = s.base k := rfl
@[simp] theorem State.endEmission_fin (s : State) : (s.endEmission).fin = s.fin := rfl
@[simp] theorem State.endEmission_flt (s : State) : (s.endEmission).flt = s.flt := rfl
@[simp] theorem State.endEmission_sel (s : State) : (s.endEmission).sel = s.sel := rfl
@[simp] theorem State.endEmission_cell (s : State) (i : Nat) : (s.endEmission).cell i = s.cell i := rfl

/-! The bits of `STATUS` after they are set. -/

@[simp] theorem State.setFin_fin (s : State) : s.setFin.fin = true := by simp [State.fin, State.setFin]
@[simp] theorem State.setFin_flt (s : State) : s.setFin.flt = s.flt := by simp [State.flt, State.setFin]
@[simp] theorem State.raiseFault_fin (s : State) (c : BitVec 8) (n : Nat) : (s.raiseFault c n).fin = s.fin := by
  simp [State.fin, State.raiseFault]
@[simp] theorem State.raiseFault_flt (s : State) (c : BitVec 8) (n : Nat) : (s.raiseFault c n).flt = true := by
  simp [State.flt, State.raiseFault]

@[simp] theorem State.consumed_inLen (s : State) (n : Nat) : (s.consumed n).inLen = s.inLen - n := by
  simp [State.inLen]
@[simp] theorem State.firstCells_length (s : State) (n : Nat) : (s.firstCells n).length = n := by simp [State.firstCells]
@[simp] theorem State.produced_outPos (s : State) (n : Nat) : (s.produced n).outPos = s.outPos + n := by
  simp [State.outPos]

end Sys2Proof.Machine
end

