-- ==== Sys2Proof/Laws/Memory.lean ====
section
/-! SUPPORT. The laws of the output window's cells: what a read finds after a write, and that every operation keeps the
canonical form. -/

namespace Sys2Proof.Machine

@[simp] theorem memRead_nil (i : Nat) : memRead [] i = none := rfl

theorem memRead_append (m n : Memory) (i : Nat) : memRead (m ++ n) i = (memRead m i).or (memRead n i) :=
  List.lookup_append

theorem memRead_cons (c : Nat × Sample) (m : Memory) (i : Nat) :
    memRead (c :: m) i = if i = c.1 then some c.2 else memRead m i := by
  obtain ⟨j, v⟩ := c
  by_cases h : i = j
  · simp [memRead, List.lookup, h]
  · simp [memRead, List.lookup, h, beq_false_of_ne h]

/-- Keeping the cells whose index has a property hides exactly the others. -/
theorem memRead_filter (m : Memory) (p : Nat → Bool) (i : Nat) :
    memRead (m.filter fun c => p c.1) i = if p i then memRead m i else none := by
  induction m with
  | nil => simp
  | cons c m ih =>
    by_cases hp : p c.1 = true <;> by_cases hi : i = c.1 <;> simp_all [memRead_cons]

theorem memRead_cellsFrom (vs : List Sample) (a i : Nat) :
    memRead (cellsFrom a vs) i = if a ≤ i then vs[i - a]? else none := by
  induction vs generalizing a with
  | nil => simp [cellsFrom]
  | cons v vs ih =>
    rw [cellsFrom, memRead_cons, ih]
    rcases Nat.lt_trichotomy i a with h | h | h
    · rw [if_neg (by simp; omega), if_neg (by omega), if_neg (by omega)]
    · simp [h]
    · rw [if_neg (by simp; omega), if_pos (by omega), if_pos (by omega), show i - a = (i - (a + 1)) + 1 by omega]
      simp

/-- A read after a write: the value written inside the written range, the old value outside it. -/
theorem memRead_memWrite (m : Memory) (a : Nat) (vs : List Sample) (i : Nat) :
    memRead (memWrite m a vs) i = if a ≤ i ∧ i < a + vs.length then vs[i - a]? else memRead m i := by
  rw [memWrite, memRead_append, memRead_append, memRead_filter m (fun j => decide (j < a)),
    memRead_filter m (fun j => decide (a + vs.length ≤ j)), memRead_cellsFrom]
  by_cases h1 : i < a
  · have h2 : ¬ a ≤ i := by omega
    have h3 : ¬ a + vs.length ≤ i := by omega
    simp [h1, h2, h3]
  · have h2 : a ≤ i := by omega
    by_cases h3 : a + vs.length ≤ i
    · have h4 : ¬ i < a + vs.length := by omega
      have h5 : vs[i - a]? = none := List.getElem?_eq_none (by omega)
      simp [h1, h2, h3, h4, h5]
    · have h4 : i < a + vs.length := by omega
      simp [h1, h2, h3, h4]

theorem memRead_memClip (m : Memory) (c i : Nat) : memRead (memClip m c) i = if i < c then memRead m i else none := by
  rw [memClip, memRead_filter m (fun j => decide (j < c))]
  simp

/-! The cells' indices. -/

theorem cellsFrom_indices (vs : List Sample) (a : Nat) : (cellsFrom a vs).map Prod.fst = List.range' a vs.length := by
  induction vs generalizing a with
  | nil => rfl
  | cons v vs ih => simp [cellsFrom, ih, List.range'_succ]

theorem mem_cellsFrom {vs : List Sample} {a : Nat} {c : Nat × Sample} (h : c ∈ cellsFrom a vs) :
    a ≤ c.1 ∧ c.1 < a + vs.length := by
  have := List.mem_map_of_mem (f := Prod.fst) h
  rw [cellsFrom_indices, List.mem_range'_1] at this
  exact this

/-- Every cell of a written memory was written now or before. -/
theorem mem_memWrite {m : Memory} {a : Nat} {vs : List Sample} {c : Nat × Sample} (h : c ∈ memWrite m a vs) :
    c ∈ m ∨ (a ≤ c.1 ∧ c.1 < a + vs.length) := by
  rw [memWrite, List.mem_append, List.mem_append] at h
  rcases h with (h | h) | h
  · exact .inl (List.mem_of_mem_filter h)
  · exact .inr (mem_cellsFrom h)
  · exact .inl (List.mem_of_mem_filter h)

/-! The canonical form. -/

theorem wf_nil : Memory.wf [] := List.Pairwise.nil

theorem wf_filter {m : Memory} (h : Memory.wf m) (p : Nat × Sample → Bool) : Memory.wf (m.filter p) :=
  h.sublist (List.filter_sublist.map _)

theorem memClip_wf {m : Memory} (h : Memory.wf m) (c : Nat) : Memory.wf (memClip m c) := wf_filter h _

theorem memWrite_wf {m : Memory} (h : Memory.wf m) (a : Nat) (vs : List Sample) : Memory.wf (memWrite m a vs) := by
  rw [Memory.wf, memWrite, List.map_append, List.map_append, List.pairwise_append, List.pairwise_append]
  refine ⟨⟨wf_filter h _, ?_, ?_⟩, wf_filter h _, ?_⟩
  · rw [cellsFrom_indices]
    exact List.pairwise_lt_range'
  · intro x hx y hy
    rw [cellsFrom_indices, List.mem_range'_1] at hy
    obtain ⟨c, hc, rfl⟩ := List.mem_map.1 hx
    have := List.of_mem_filter hc
    simp at this
    omega
  · intro x hx y hy
    obtain ⟨d, hd, rfl⟩ := List.mem_map.1 hy
    have hd' := List.of_mem_filter hd
    simp at hd'
    rcases List.mem_append.1 hx with hx | hx
    · obtain ⟨c, hc, rfl⟩ := List.mem_map.1 hx
      have := List.of_mem_filter hc
      simp at this
      omega
    · rw [cellsFrom_indices, List.mem_range'_1] at hx
      omega

theorem reset_out_wf : Memory.wf State.reset.out := wf_nil

end Sys2Proof.Machine
end

