-- ==== Sys2Proof/Laws/Ops.lean ====
section
/-! SUPPORT. What the shared operations of Machine/Ops.lean can answer: for each, when it answers a next state and which. -/

namespace Sys2Proof.Machine

@[simp] theorem andThen_next {α β : Type} (a : α) (f : α → Res β) : andThen (.next a) f = f a := rfl
@[simp] theorem andThen_fault {α β : Type} (e : Fault) (f : α → Res β) : andThen (.fault e : Res α) f = .fault e := rfl
@[simp] theorem andThen_refused {α β : Type} (e : Refusal) (f : α → Res β) : andThen (.refused e : Res α) f = .refused e := rfl

/-- A chain answers a next state only through both of its parts. -/
theorem andThen_eq_next {α β : Type} {r : Res α} {f : α → Res β} {b : β} :
    andThen r f = .next b ↔ ∃ a, r = .next a ∧ f a = .next b := by
  cases r <;> simp

theorem andThen_eq_fault {α β : Type} {r : Res α} {f : α → Res β} {e : Fault} :
    andThen r f = .fault e ↔ r = .fault e ∨ ∃ a, r = .next a ∧ f a = .fault e := by
  cases r <;> simp

theorem andThen_assoc {α β γ : Type} (r : Res α) (f : α → Res β) (g : β → Res γ) :
    andThen (andThen r f) g = andThen r fun a => andThen (f a) g := by
  cases r <;> rfl

@[simp] theorem forRange_zero (body : Nat → State → Res State) (lo : Nat) (s : State) :
    forRange body lo 0 s = .next s := rfl

theorem forRange_succ (body : Nat → State → Res State) (lo n : Nat) (s : State) :
    forRange body lo (n + 1) s = andThen (body lo s) (forRange body (lo + 1) n) := rfl

/-- A loop whose body completes and keeps `inv` from one index to the next completes with `inv` at the end. -/
theorem forRange_complete (body : Nat → State → Res State) (inv : Nat → State → Prop) (lo n : Nat) (s : State)
    (start : inv lo s)
    (next : ∀ k u, lo ≤ k → k < lo + n → inv k u → ∃ v, body k u = .next v ∧ inv (k + 1) v) :
    ∃ t, forRange body lo n s = .next t ∧ inv (lo + n) t := by
  induction n generalizing lo s with
  | zero => exact ⟨s, rfl, start⟩
  | succ n ih =>
    obtain ⟨v, hv, hi⟩ := next lo s (by omega) (by omega) start
    obtain ⟨t, ht, hit⟩ := ih (lo + 1) v hi fun k u h1 h2 => next k u (by omega) (by omega)
    exact ⟨t, by rw [forRange_succ, hv, andThen_next, ht], by rwa [show lo + (n + 1) = lo + 1 + n by omega]⟩

/-- A loop whose body completes and keeps `inv` up to the index `at_`, where it faults, answers that fault. -/
theorem forRange_fault (body : Nat → State → Res State) (inv : Nat → State → Prop) (at_ : Nat) (e : Fault) (lo n : Nat)
    (s : State) (low : lo ≤ at_) (high : at_ < lo + n) (start : inv lo s)
    (next : ∀ k u, lo ≤ k → k < at_ → inv k u → ∃ v, body k u = .next v ∧ inv (k + 1) v)
    (stop : ∀ u, inv at_ u → body at_ u = .fault e) : forRange body lo n s = .fault e := by
  induction n generalizing lo s with
  | zero => omega
  | succ n ih =>
    rw [forRange_succ]
    obtain rfl | h := Nat.eq_or_lt_of_le low
    · rw [stop s start, andThen_fault]
    · obtain ⟨v, hv, hi⟩ := next lo s (by omega) h start
      rw [hv, andThen_next]
      exact ih (lo + 1) v h (by omega) hi fun k u h1 h2 => next k u (by omega) h2

/-! Reads and writes. -/

theorem readIn_next {s : State} {a n : Nat} (h : a + n ≤ s.inLen) : readIn s a n = .next ((s.inn.drop a).take n) :=
  if_pos h

theorem readRom_whole (s : State) : readRom s 0 320 = .next s.rom.toList := by
  rw [readRom, if_pos (by omega)]
  simp [List.take_of_length_le]

theorem readRomAt_next {s : State} {a : Nat} (h : a < 320) : readRomAt s a = .next s.rom[a] := dif_pos h

theorem readOutAt_next {s : State} {i : Nat} (h : i < s.outCap) : readOutAt s i = .next (s.cell i) := if_pos h

theorem writeOut_next {s : State} {a : Nat} {vs : List Sample} (h : a + vs.length ≤ s.outCap) :
    writeOut s a vs = .next (s.withOut (memWrite s.out a vs)) := if_pos (.inl h)

/-- A write answers a next state only inside the window or if it writes nothing, and then only the cells have changed. -/
theorem writeOut_eq_next {s t : State} {a : Nat} {vs : List Sample} :
    writeOut s a vs = .next t ↔ (a + vs.length ≤ s.outCap ∨ vs = []) ∧ t = s.withOut (memWrite s.out a vs) := by
  rw [writeOut]
  split <;> simp_all [eq_comm]

/-- A write that leaves the window stops with its fault. -/
theorem writeOut_fault {s : State} {a : Nat} {vs : List Sample} (h : s.outCap < a + vs.length) (hv : vs ≠ []) :
    writeOut s a vs = .fault (.outsideSpace .out) := if_neg (by simp [hv, h])

/-- What a cell holds after the cells change: what was written, else the window's own content. -/
theorem withOut_cell (s : State) (m : Memory) (i : Nat) :
    (s.withOut m).cell i = (memRead m i).getD (Config.freeCell s.draws i) := rfl

/-- A cell after a write: the value written inside the range, the old content outside it. -/
theorem cell_memWrite (s : State) (a : Nat) (vs : List Sample) (i : Nat) :
    (s.withOut (memWrite s.out a vs)).cell i =
      if h : a ≤ i ∧ i - a < vs.length then vs[i - a]'h.2 else s.cell i := by
  rw [withOut_cell, memRead_memWrite]
  by_cases h : a ≤ i ∧ i - a < vs.length
  · rw [if_pos ⟨h.1, by omega⟩, dif_pos h, List.getElem?_eq_getElem h.2, Option.getD_some]
  · rw [if_neg (by omega), dif_neg h, State.cell]

@[simp] theorem withOut_withOut (s : State) (m n : Memory) : (s.withOut m).withOut n = s.withOut n := rfl

@[simp] theorem withOut_self (s : State) : s.withOut s.out = s := rfl

/-! The commands, the marker and the scratch. -/

theorem consumeCmd_next {n : Nat} {s : State} (h : n ≤ s.inLen) : consumeCmd n s = .next (s.consumed n) := if_pos h

theorem tagOutCmd_next {off v : Nat} {s : State} (h : off < s.outCap) : tagOutCmd off v s = .next (s.tagged off v) :=
  if_pos h

theorem produceCmd_next {n : Nat} {s : State} (h : n ≤ s.outCap) : produceCmd n s = .next (s.produced n) := if_pos h

theorem withJob_some {s : State} {j : Job} (h : s.job = some j) (body : Job → Res State) : withJob s body = body j := by
  rw [withJob, h]

theorem withJob_eq_next {s t : State} {body : Job → Res State} :
    withJob s body = .next t ↔ ∃ j, s.job = some j ∧ body j = .next t := by
  rw [withJob]
  split <;> simp_all

theorem withMarker_some {s : State} {t : TagRec} (h : s.sel = some t) (body : TagRec → Res State) :
    withMarker s body = body t := by
  rw [withMarker, h]

theorem withMarker_eq_next {s u : State} {body : TagRec → Res State} :
    withMarker s body = .next u ↔ ∃ t, s.sel = some t ∧ body t = .next u := by
  rw [withMarker]
  split <;> simp_all

theorem admitCount_next {s : State} {n : Nat} (h0 : n ≠ 0) (h : s.fits n = true) : admitCount s n = .next () := by
  rw [admitCount, if_neg h0, if_pos h]

theorem admitCount_eq_next {s : State} {n : Nat} : admitCount s n = .next () ↔ n ≠ 0 ∧ s.fits n = true := by
  rw [admitCount]
  split <;> [simp_all; split <;> simp_all]

theorem admitCount_no_fault (s : State) (n : Nat) (e : Fault) : admitCount s n ≠ .fault e := by
  rw [admitCount]
  split <;> [simp; split <;> simp]

/-- The admitted subset looks at the width and at the configuration only. -/
theorem fits_congr {s u : State} (h1 : u.par = s.par) (h2 : u.padFront = s.padFront) (h3 : u.padTail = s.padTail) (n : Nat) :
    u.fits n = s.fits n := by
  have form : ∀ v : State, v.fits n =
      (decide (v.padFront < 2 ^ v.par.wordBits) && decide (v.padTail < 2 ^ v.par.wordBits)
        && decide (max v.padTail 1 < 2 ^ v.par.wordBits) && decide (64 * n < 2 ^ v.par.wordBits)
        && decide (80 * n < 2 ^ v.par.wordBits)
        && decide (v.padFront + max v.padTail 1 + 80 * n + 320 < 2 ^ v.par.wordBits)) := fun _ => rfl
  rw [form, form, h1, h2, h3]

/-! The numerics. -/

/-- The default average of two pairs of binary32 (R128). -/
theorem averageBy_halfOfSum (x y : Complex32) : averageBy .halfOfSum (.b32 x) (.b32 y) = .b32 (avgComplex x y) := rfl

theorem lookup_map_self {α β : Type} [BEq α] [LawfulBEq α] (f : α → β) {a : α} {l : List α} (h : a ∈ l) :
    (l.map fun x => (x, f x)).lookup a = some (f a) := by
  induction l with
  | nil => simp at h
  | cons b l ih =>
    rw [List.map_cons, List.lookup_cons]
    by_cases hb : a = b
    · simp [hb]
    · simp_all [beq_eq_false_iff_ne.2 hb]

/-- Every function is the average of some instance, as far as any finite list of pairs goes (R11, D5). -/
theorem averageBy_given (f : Sample → Sample → Sample) (rest : Nat) {l : List (Sample × Sample)} {a b : Sample}
    (h : (a, b) ∈ l) : averageBy (.given (l.map fun p => (p, f p.1 p.2)) rest) a b = f a b := by
  rw [averageBy, lookup_map_self (fun p : Sample × Sample => f p.1 p.2) h, Option.getD_some]

/-! Marker selection. -/

theorem earliest_mem {ts : List TagRec} {t : TagRec} (h : earliest ts = some t) : t ∈ ts := by
  induction ts generalizing t with
  | nil => simp [earliest] at h
  | cons u us ih =>
    rw [earliest] at h
    split at h
    · simp_all
    · rename_i v hv
      split at h <;> simp_all

/-- The selected marker is a record of the window, of the kind `BURST_START`, at a visible index. -/
theorem sel_mem {s : State} {t : TagRec} (h : s.sel = some t) :
    t ∈ s.inTags ∧ t.kind = .burstStart ∧ t.index < s.inLen := by
  have := List.mem_filter.1 (earliest_mem h)
  simpa [State.isVisibleMarker] using this

end Sys2Proof.Machine
end

