-- ==== Sys2Proof/Laws/PerInstr.lean ====
section
/-! SUPPORT. Statements made per instruction. `Encoding`: the word of a well-formed instruction lies in its row of
spec/opcode_table.json, the rows copied from the table and not from the decoder, and fits its format. -/

namespace Sys2Proof.Laws.Encoding

/-- The row of the table an instruction belongs to: its format, its mask and its match. -/
def row : Instr → Format × Nat × Nat
  | .nopTermFin _ => (.status, 0x1, 0x1)
  | .nopTermFlt _ => (.status, 0x2, 0x2)
  | .idle => (.cond, 0x3f, 0x00)
  | .finish => (.cond, 0x3f, 0x08)
  | .fault _ => (.cond, 0x37, 0x20)
  | .waitIn _ _ => (.cond, 0x35, 0x30)
  | .waitOut _ _ => (.cond, 0x36, 0x34)
  | .emit _ => (.cond, 0x3e, 0x36)
  | .emitEod => (.cond, 0x3f, 0x3e)
  | .emitFin => (.cond, 0x3f, 0x3f)
  | .padf => (.phase, 0xf, 0x0)
  | .pre => (.phase, 0xf, 0x1)
  | .cpsym => (.phase, 0xf, 0x2)
  | .win0 => (.phase, 0xf, 0x3)
  | .wink => (.phase, 0xf, 0x4)
  | .padt => (.phase, 0xf, 0x5)
  | .consume => (.phase, 0xf, 0x6)
  | .tagout => (.phase, 0xf, 0x7)
  | .produce => (.phase, 0xf, 0x8)
  | .eodchk => (.phase, 0xf, 0x9)

/-- The word of `i` is one of its row's words. -/
def Statement (i : Instr) : Prop :=
  (encode i).1 = (row i).1 ∧ (encode i).2 < 2 ^ (row i).1.width ∧ (encode i).2 &&& (row i).2.1 = (row i).2.2

theorem nopTermFin (flt : Bool) : Statement (.nopTermFin flt) := by cases flt <;> unfold Statement <;> decide
theorem nopTermFlt (fin : Bool) : Statement (.nopTermFlt fin) := by cases fin <;> unfold Statement <;> decide
theorem idle : Statement .idle := by unfold Statement; decide
theorem finish : Statement .finish := by unfold Statement; decide
theorem fault (e : Bool) : Statement (.fault e) := by cases e <;> unfold Statement <;> decide
theorem waitIn (e o : Bool) : Statement (.waitIn e o) := by cases e <;> cases o <;> unfold Statement <;> decide
theorem waitOut (e r : Bool) : Statement (.waitOut e r) := by cases e <;> cases r <;> unfold Statement <;> decide
theorem emit (r : Bool) : Statement (.emit r) := by cases r <;> unfold Statement <;> decide
theorem emitEod : Statement .emitEod := by unfold Statement; decide
theorem emitFin : Statement .emitFin := by unfold Statement; decide
theorem padf : Statement .padf := by unfold Statement; decide
theorem pre : Statement .pre := by unfold Statement; decide
theorem cpsym : Statement .cpsym := by unfold Statement; decide
theorem win0 : Statement .win0 := by unfold Statement; decide
theorem wink : Statement .wink := by unfold Statement; decide
theorem padt : Statement .padt := by unfold Statement; decide
theorem consume : Statement .consume := by unfold Statement; decide
theorem tagout : Statement .tagout := by unfold Statement; decide
theorem produce : Statement .produce := by unfold Statement; decide
theorem eodchk : Statement .eodchk := by unfold Statement; decide

end Sys2Proof.Laws.Encoding
end

