-- ==== Sys2Proof/Laws/Step.lean ====
section
/-! SUPPORT. How a step and a run are taken apart. -/

namespace Sys2Proof.Machine

/-- A word that decodes is the operation it decodes to. -/
theorem operationOf_ok {f : Format} {w : Nat} {i : Instr} (h : decodeWord f w = .ok i) : operationOf f w = .next i := by
  rw [operationOf, h]

theorem step_emission {s : State} {j : Job} (h : s.job = some j) : step s = invoke s := by
  rw [step, h]

theorem step_invoke {s : State} (hj : s.job = none) (ha : s.agenda = []) : step s = invoke s := by
  rw [step, hj, ha]

theorem step_host {s : State} {h : HostStep} {rest : List HostStep} (hj : s.job = none) (ha : s.agenda = h :: rest) :
    step s = hostStep h { s with agenda := rest } := by
  simp only [step, hj, ha]

/-- An invocation answers a next state only through the selected operation. -/
theorem invoke_eq_next {s t : State} : invoke s = .next t ↔ ∃ i, s.operation = .next i ∧ exec i s = .next t := andThen_eq_next

/-- The selection looks at the input window's length and at the records only. -/
theorem sel_congr {s u : State} (h1 : u.inTags = s.inTags) (h2 : u.inLen = s.inLen) : u.sel = s.sel := by
  rw [State.sel, State.sel, h1]
  refine congrArg earliest (List.filter_congr fun t _ => ?_)
  rw [State.isVisibleMarker, State.isVisibleMarker, h2]

/-- `n` steps. -/
def runSteps : Nat → State → Res State
  | 0, s => .next s
  | n + 1, s => andThen (step s) (runSteps n)

theorem run_of_next (M : Host.Core) (n : Nat) {s t : M.State} (h : M.step s = .next t) : M.run (n + 1) s = M.run n t := by
  rw [Host.Core.run, h]

theorem run_of_fault (M : Host.Core) (n : Nat) {s : M.State} {e : M.Fault} (h : M.step s = .fault e) :
    M.run (n + 1) s = .fault e := by
  rw [Host.Core.run, h]

theorem run_of_refused (M : Host.Core) (n : Nat) {s : M.State} {e : M.Refusal} (h : M.step s = .refused e) :
    M.run (n + 1) s = .refused e := by
  rw [Host.Core.run, h]

/-- A run of the machine as the host reads it, in the model's own types. -/
theorem core_run_eq (n : Nat) (s : State) : Host.Core.run core n s = runSteps n s := by
  induction n generalizing s with
  | zero => rfl
  | succ n ih =>
    rw [runSteps]
    cases h : step s with
    | next t => exact (run_of_next core n h).trans (ih t)
    | fault e => exact run_of_fault core n h
    | refused e => exact run_of_refused core n h

/-- What every step keeps, every run keeps. -/
theorem runSteps_keeps (P : State → Prop) (keeps : ∀ s t, P s → step s = .next t → P t) (n : Nat) {s t : State} (h : P s)
    (e : runSteps n s = .next t) : P t := by
  induction n generalizing s with
  | zero => cases e; exact h
  | succ n ih =>
    rw [runSteps, andThen_eq_next] at e
    obtain ⟨u, h1, h2⟩ := e
    exact ih (keeps _ _ h h1) h2

/-- A step that answers the same state does so for ever. -/
theorem runSteps_fixed {s : State} (h : step s = .next s) (n : Nat) : runSteps n s = .next s := by
  induction n with
  | zero => rfl
  | succ n ih => rw [runSteps, h, andThen_next, ih]

end Sys2Proof.Machine
end

