-- ==== Sys2Proof/Machine/Stimulus.lean ====
section
/-! DEFINITION. The stimulus notation of test scenarios (spec/30_encoding.md R87, R88; spec/95_test_vectors.md section 0): a
notation of the spec, not an interface of the block. Each line is host steps, run at once (log 28). -/

namespace Sys2Proof.Machine

/-- The test sample `X(n) = (10 + n, -n)` of the default numerics (95_test_vectors.md section 0). -/
def testSample (n : Nat) : Sample := .b32 { re := f32OfInt (10 + n), im := f32OfInt (-(n : Int)) }

/-- The lines of R87 and the pseudo-operations of R88. -/
inductive Line where
  | construct (padFront padTail : Nat)
  | push (count : Nat) (first : Option Nat)
  | tag (index count : Nat)
  | other (index value : Nat)
  | eod
  | cap (c : Nat)
  | invoke
  | burst (count : Nat)
  | run
  | drain
deriving DecidableEq, Repr, Inhabited

/-- A scenario under way: the machine, and the `n` from which `X(n)` is next unused: one more than the largest `n` pushed so
far (DESIGN CHOICE, safe, log 28). -/
structure Bench where
  st   : State
  next : Nat
deriving DecidableEq, Repr

/-- `X(first), X(first + 1), …`, `count` of them. -/
def testSamples (first count : Nat) : List Sample := (List.range count).map fun j => testSample (first + j)

/-- The operations after which `RUN` stops: `IDLE`, `WAIT`, `FAULT` and `NOP_TERM` (R88). -/
def Instr.endsRun : Instr → Bool
  | .nopTermFin _ | .nopTermFlt _ | .idle | .fault _ | .waitIn _ _ | .waitOut _ _ => true
  | .finish | .emit _ | .emitEod | .emitFin | .padf | .pre | .cpsym | .win0 | .wink | .padt | .consume | .tagout
  | .produce | .eodchk => false

/-- `INVOKE` repeated until an invocation ends the run, at most `fuel` times. -/
def runInvokes : Nat → State → Res State
  | 0, s => .next s
  | fuel + 1, s =>
    andThen s.operation fun i =>
      andThen (exec i s) fun t => if Instr.endsRun i then .next t else runInvokes fuel t

/-- One line of the notation. `RUN` needs at most one invocation per sample in the window and two more, since every emission
consumes at least 64 samples. A `PUSH` without `from` starts above every `n` pushed before, so a `PUSH` with a `from` below that
leaves `next` where it stands (R87 says "next unused n" and no more: DESIGN CHOICE, safe, log 28); `BURST` pushes without
`from` (R88). -/
def runLine (l : Line) (b : Bench) : Res Bench :=
  match l with
  | .construct p pt => andThen (hostConstruct p pt b.st) fun s => .next { b with st := s }
  | .push count first =>
    let n := first.getD b.next
    andThen (hostPush (testSamples n count) [] b.st) fun s =>
      .next { st := s, next := if count = 0 then b.next else max b.next (n + count) }
  | .tag index count => andThen (hostPush [] [⟨index, .burstStart, count⟩] b.st) fun s => .next { b with st := s }
  | .other index value => andThen (hostPush [] [⟨index, .other, value⟩] b.st) fun s => .next { b with st := s }
  | .eod => andThen (hostEod b.st) fun s => .next { b with st := s }
  | .cap c => andThen (hostCap c b.st) fun s => .next { b with st := s }
  | .invoke => andThen (invoke b.st) fun s => .next { b with st := s }
  | .burst count =>
    andThen (hostPush [] [⟨b.st.inLen, .burstStart, count⟩] b.st) fun s =>
      andThen (hostPush (testSamples b.next (64 * count)) [] s) fun t => .next { st := t, next := b.next + 64 * count }
  | .run => andThen (runInvokes (b.st.inLen + 2) b.st) fun s => .next { b with st := s }
  | .drain => andThen (hostCap b.st.par.outCap b.st) fun s => .next { b with st := s }

/-- A scenario, executed top to bottom (R87). -/
def runLines : List Line → Bench → Res Bench
  | [], b => .next b
  | l :: ls, b => andThen (runLine l b) (runLines ls)

end Sys2Proof.Machine
end

