-- ==== Sys2Proof/Tests/Slice0.lean ====
section
/-! SUPPORT. The model's own tests. Expected values are those of spec/95_test_vectors.md (T1 to T11, P4, P6) or are written out
from the patterns of spec/30_encoding.md R69 and R71; the `witness_` theorems give, for each statement that has hypotheses, a
state and operands that meet them together. -/

set_option Elab.async false

namespace Sys2Proof.Tests

open Sys2Proof.Machine

/-! ## Helpers -/

/-- A next state was answered. -/
def isNext {α : Type} (r : Res α) : Bool :=
  match r with
  | .next _ => true
  | .fault _ | .refused _ => false

/-- A next state was answered and `p` holds of it. -/
def nextHas {α : Type} (r : Res α) (p : α → Bool) : Bool :=
  match r with
  | .next a => p a
  | .fault _ | .refused _ => false

/-- The refusal with a given reason was answered. -/
def refusedWith {α : Type} (r : Res α) (e : Refusal) : Bool :=
  match r with
  | .refused d => decide (d = e)
  | .next _ | .fault _ => false

/-- The operation selected is `i`. -/
def selects (s : State) (i : Instr) : Bool := nextHas s.operation fun j => decide (j = i)

theorem exists_of_isNext {α : Type} {r : Res α} (h : isNext r = true) : ∃ a, r = .next a := by
  cases r <;> simp_all [isNext]

theorem operation_of_selects {s : State} {i : Instr} (h : selects s i = true) : s.operation = .next i := by
  cases hs : s.operation <;> simp_all [selects, nextHas]

theorem exists_of_nextHas {α : Type} {r : Res α} {p : α → Bool} (h : nextHas r p = true) :
    ∃ a, r = .next a ∧ p a = true := by
  cases r <;> simp_all [nextHas]

/-- The test ROM `PRE_T[i] = (1000 + i, 2000 + i)` (95_test_vectors.md section 0). -/
def testRom : Vector Sample 320 := tableOf fun i => .b32 ⟨f32OfInt (1000 + i), f32OfInt (2000 + i)⟩

/-- A sample with integer parts. -/
def smp (re im : Int) : Sample := .b32 ⟨f32OfInt re, f32OfInt im⟩

/-- `BURST_START` at an index. -/
def bs (index count : Nat) : TagRec := ⟨index, .burstStart, count⟩

/-- The fixture of T2: `CONSTRUCT 0 0`, then annotations, `X(0), X(1), …`, the end-of-data bit and the output space. -/
def gated (tags : List TagRec) (n : Nat) (eod : Bool) (cap : Nat) : State :=
  { State.reset with rom := testRom, inTags := tags, inn := testSamples 0 n, inEod := eod, outCap := cap }

/-- The start of T1. -/
def t1 : State := { gated [bs 0 2] 128 false 481 with padTail := 1 }

/-- The middle of the emission of `count` symbols `X(0), X(1), …`, with room for it (T4, T6, T7). -/
def inPhase (p : BitVec 4) (padFront padTail count : Nat) : State :=
  { gated [bs 0 count] (64 * count) false 1000 with
    padFront := padFront, padTail := padTail, job := some ⟨p, count, true, true⟩ }

/-- The cells of the output window listed hold the values listed. -/
def cellsAre (s : State) (l : List (Nat × Sample)) : Bool := l.all fun c => decide (memRead s.out c.1 = some c.2)

/-- The produced samples listed have the values listed. -/
def streamIs (s : State) (l : List (Nat × Sample)) : Bool := l.all fun c => decide (s.ostream[c.1]? = some c.2)

/-! ## Well-formedness, decoding, encoding -/

/-- The one check of WellFormed: `NOP_TERM` by `FLT` with `FIN` set is ill formed, and its word is read as the first row. -/
theorem test_wellFormed_refuses : (Instr.nopTermFlt true).wellFormed = false ∧
    encode (.nopTermFlt true) = (.status, 0b11) ∧ decodeWord .status 0b11 = .ok (.nopTermFin true) := by decide

/-- `STATUS` words, the rows x1 and 1x. -/
theorem test_decode_status : decodeWord .status 0b01 = .ok (.nopTermFin false) ∧
    decodeWord .status 0b11 = .ok (.nopTermFin true) ∧ decodeWord .status 0b10 = .ok (.nopTermFlt false) := by decide

/-- `COND` words 000000, 001000, 10x000. -/
theorem test_decode_cond_no_gate : decodeWord .cond 0b000000 = .ok .idle ∧ decodeWord .cond 0b001000 = .ok .finish ∧
    decodeWord .cond 0b100000 = .ok (.fault false) ∧ decodeWord .cond 0b101000 = .ok (.fault true) := by decide

/-- `COND` words 11x0x0 and 11x10x. -/
theorem test_decode_cond_wait : decodeWord .cond 0b110000 = .ok (.waitIn false false) ∧
    decodeWord .cond 0b110010 = .ok (.waitIn false true) ∧ decodeWord .cond 0b111000 = .ok (.waitIn true false) ∧
    decodeWord .cond 0b111010 = .ok (.waitIn true true) ∧ decodeWord .cond 0b110100 = .ok (.waitOut false false) ∧
    decodeWord .cond 0b110101 = .ok (.waitOut false true) ∧ decodeWord .cond 0b111100 = .ok (.waitOut true false) ∧
    decodeWord .cond 0b111101 = .ok (.waitOut true true) := by decide

/-- `COND` words 11011x, 111110, 111111. -/
theorem test_decode_cond_emit : decodeWord .cond 0b110110 = .ok (.emit false) ∧
    decodeWord .cond 0b110111 = .ok (.emit true) ∧ decodeWord .cond 0b111110 = .ok .emitEod ∧
    decodeWord .cond 0b111111 = .ok .emitFin := by decide

/-- The phase codes of R71. -/
theorem test_decode_phase : decodeWord .phase 0b0000 = .ok .padf ∧ decodeWord .phase 0b0001 = .ok .pre ∧
    decodeWord .phase 0b0010 = .ok .cpsym ∧ decodeWord .phase 0b0011 = .ok .win0 ∧ decodeWord .phase 0b0100 = .ok .wink ∧
    decodeWord .phase 0b0101 = .ok .padt ∧ decodeWord .phase 0b0110 = .ok .consume ∧
    decodeWord .phase 0b0111 = .ok .tagout ∧ decodeWord .phase 0b1000 = .ok .produce ∧
    decodeWord .phase 0b1001 = .ok .eodchk := by decide

/-- Reserved words are rejected by name. -/
theorem test_decode_rejects : decodeWord .status 0b00 = .error .statusRun ∧
    decodeWord .cond 0b000001 = .error .condNotProduced ∧ decodeWord .cond 0b010000 = .error .condNotProduced ∧
    decodeWord .cond 0b100100 = .error .condNotProduced ∧ decodeWord .cond 0b110001 = .error .condNotProduced ∧
    decodeWord .phase 0b1010 = .error .phaseReserved ∧ decodeWord .phase 0b1111 = .error .phaseReserved ∧
    decodeWord .cond 64 = .error .tooWide := by decide

/-- Words of the table by width, and as bytes where the format shows. -/
theorem test_decodeTableWord : decodeTableWord 2 0b10 = some (.nopTermFlt false) ∧
    decodeTableWord 4 0b0001 = some .pre ∧ decodeTableWord 6 0b001000 = some .finish ∧
    decodeTableWord 8 0x36 = some (.emit false) ∧ decodeTableWord 8 0x01 = some (.nopTermFin false) ∧
    decodeTableWord 8 0x09 = some .eodchk ∧ decodeTableWord 8 0xff = none := by decide

/-- Every row of the table, placed where the step reads it, runs as the first operation after reset. -/
theorem test_placed_words_run :
    ([(2, 1), (2, 2), (6, 0x00), (6, 0x08), (6, 0x20), (6, 0x30), (6, 0x34), (6, 0x36), (6, 0x3e), (6, 0x3f), (4, 0),
      (4, 1), (4, 2), (4, 3), (4, 4), (4, 5), (4, 6), (4, 7), (4, 8), (4, 9)].all fun row =>
      isNext (step (State.reset.withFetchWord row.1 row.2))) = true := by decide +kernel

/-- R72, R73, `W = 8`: index in bits 7 to 0, value in 15 to 8, kind in 23 to 16; code 3 is `OTHER`. -/
theorem test_tagrec : packTag 8 ⟨0x12, .burstBoundary, 0x34⟩ = 0x023412 ∧
    unpackTag 8 0x01ff00 = some ⟨0, .burstStart, 255⟩ ∧ unpackTag 8 0x030201 = some ⟨1, .other, 2⟩ ∧
    unpackTag 8 0x1000000 = none := by decide

/-- R74, R44, R75: the real part lowest, each part little-endian; `pad_front` lowest. -/
theorem test_sampleword : packSample ⟨0x3f800000, 0xc0000000⟩ = 0xc00000003f800000 ∧
    sampleBytes ⟨0x3f800001, 0xc0000000⟩ = [0x01, 0x00, 0x80, 0x3f, 0x00, 0x00, 0x00, 0xc0] ∧
    unpackCfg 16 0x00040003 = some (3, 4) := by decide

/-! ## The condition word and the operation selected: T2 -/

/-- T2, vectors 1 to 8: no marker, or a misplaced one. -/
theorem test_cond_no_gate :
    [gated [] 0 false 0, gated [] 50 false 1000, gated [] 0 true 0, gated [] 50 true 1000, gated [⟨0, .other, 7⟩] 64 false 1000,
      gated [⟨0, .other, 7⟩] 64 true 1000, gated [bs 5 2] 133 false 1000, gated [bs 1 1] 11 true 0].map (·.cond.word.toNat) =
    [0b000000, 0b000000, 0b001000, 0b001000, 0b000000, 0b001000, 0b100000, 0b101000] := by decide +kernel

/-- T2, vectors 9 to 19, and the first row of T3: a marker at index 0. -/
theorem test_cond_gate :
    [gated [bs 0 1] 40 false 100, gated [bs 0 1] 40 false 401, gated [bs 0 1] 64 false 400, gated [bs 0 1] 128 false 400,
      gated [bs 0 2] 100 true 1000, gated [bs 0 1] 64 true 0, gated [bs 0 1] 64 false 401, gated [bs 0 1] 128 false 401,
      gated [bs 0 1] 128 true 401, gated [bs 0 1] 127 true 401, gated [bs 0 1] 64 true 401,
      gated [bs 0 1] 63 false 401].map (·.cond.word.toNat) =
    [0b110000, 0b110010, 0b110101, 0b110100, 0b111010, 0b111101, 0b110111, 0b110110, 0b111110, 0b111111, 0b111111,
      0b110010] := by decide +kernel

/-- T10 (c), (d), (e), (f): refusals, the selected marker, a record beyond the samples. -/
theorem test_marker_corners :
    refusedWith (step (gated [bs 0 0] 1 false 0)) .countZero = true ∧
    refusedWith (step (gated [bs 2 0] 3 false 0)) .countZero = true ∧
    refusedWith (step { gated [bs 0 820] 1 false 0 with par := { Params.default with wordBits := 16 } }) .countTooLarge = true ∧
    isNext (step { gated [bs 0 815] 1 false 0 with par := { Params.default with wordBits := 16 } }) = true ∧
    (gated [bs 0 2, bs 0 1] 128 false 1000).sel = some (bs 0 2) ∧
    (gated [bs 64 2, bs 0 1] 192 false 1000).sel = some (bs 0 1) ∧
    (gated [bs 0 1] 0 false 0).sel = none := by decide +kernel

/-! ## The operations -/

/-- T2, vector 20: `NOP_TERM` in `DONE` and in `FAULTED`, with a marker at index 0 and ample capacity. -/
theorem test_nopTerm :
    selects { t1 with status := 1, outFin := true } (.nopTermFin false) = true ∧
    selects { t1 with status := 2 } (.nopTermFlt false) = true := by decide +kernel

/-- T2, vector 2: `IDLE` leaves the unmarked samples. -/
theorem test_idle : nextHas (step (gated [] 50 false 1000)) (fun t => decide (t.inLen = 50)) = true := by decide +kernel

/-- T2, vector 4: `FINISH`. -/
theorem test_finish : nextHas (step (gated [] 50 true 1000)) (fun t =>
    t.outFin && decide (t.fsm = some .done) && decide (t.inLen = 50)) = true := by decide +kernel

/-- T10 (a): `FAULT`. -/
theorem test_fault : nextHas (step (gated [bs 5 2] 133 false 1000)) (fun t =>
    decide (t.fsm = some .faulted) && decide (t.fltCode = 1) && decide (t.fltInfo = 5) && decide (t.inLen = 133) &&
    !t.outFin && decide (t.inTags = [bs 5 2]) && decide (t.ostream = [])) = true := by decide +kernel

/-- T2, vectors 9 and 11: `WAIT`. -/
theorem test_wait :
    nextHas (step (gated [bs 0 1] 40 false 100)) (fun t => decide (t.inLen = 40) && decide (t.out = [])) = true ∧
    nextHas (step (gated [bs 0 1] 64 false 400)) (fun t => decide (t.inLen = 64) && decide (t.out = [])) = true := by
  decide +kernel

/-- T1: `EMIT` of two symbols. -/
theorem test_emit : nextHas (step t1) (fun t =>
    streamIs t [(0, smp 1000 2000), (256, smp 1256 2256), (319, smp 1319 2319), (320, smp 657 1104), (321, smp 59 (-49)),
      (335, smp 73 (-63)), (336, smp 10 0), (399, smp 73 (-63)), (400, smp 66 (-56)), (401, smp 123 (-113)),
      (416, smp 74 (-64)), (479, smp 137 (-127))] &&
    decide (t.outPos = 481) && decide (t.inPos = 128) && decide (t.inn = []) && decide (t.inTags = []) &&
    decide (t.outTags = [⟨0, .burstBoundary, 481⟩]) && !t.outFin && decide (t.fsm = some .run)) = true := by decide +kernel

/-- T8 (a): what `EMIT` does with other records. -/
theorem test_emit_rebases : nextHas (step (gated [⟨3, .other, 7⟩, bs 0 1, ⟨70, .other, 9⟩] 80 false 1000)) (fun t =>
    decide (t.inLen = 16) && decide (t.inn[0]? = some (testSample 64)) && decide (t.inTags = [⟨6, .other, 9⟩]) &&
    decide (t.outTags = [⟨0, .burstBoundary, 401⟩])) = true := by decide +kernel

/-- T2, vector 17: `EMIT` at the end of data with 64 samples left. -/
theorem test_emitEod : nextHas (step (gated [bs 0 1] 128 true 401)) (fun t =>
    decide (t.outPos = 401) && decide (t.inLen = 64) && !t.outFin && decide (t.fsm = some .run)) = true := by
  decide +kernel

/-- T2, vector 18: `EMIT_FIN`. -/
theorem test_emitFin : nextHas (step (gated [bs 0 1] 127 true 401)) (fun t =>
    decide (t.outPos = 401) && decide (t.inLen = 63) && t.outFin && decide (t.fsm = some .done)) = true := by
  decide +kernel

/-! ## The micro-operations, each by itself -/

/-- T4 (a): five front zeros. -/
theorem test_padf : nextHas (exec .padf (inPhase 0 5 0 1)) (fun t =>
    cellsAre t [(0, smp 0 0), (4, smp 0 0)] && decide (memRead t.out 5 = none)) = true := by decide +kernel

/-- T5, `P = 3`. -/
theorem test_pre : nextHas (exec .pre (inPhase 1 3 4 1)) (fun t =>
    cellsAre t [(3, smp 1000 2000), (258, smp 1255 2255), (322, smp 1319 2319)] &&
    decide (memRead t.out 2 = none) && decide (memRead t.out 323 = none)) = true := by decide +kernel

/-- T6: the span of symbol 1, before windowing. -/
theorem test_cpsym : nextHas (exec .cpsym (inPhase 2 0 1 2)) (fun t =>
    cellsAre t [(400, smp 122 (-112)), (401, smp 123 (-113)), (415, smp 137 (-127)), (416, smp 74 (-64)),
      (463, smp 121 (-111)), (464, smp 122 (-112)), (479, smp 137 (-127))] &&
    decide (memRead t.out 480 = none)) = true := by decide +kernel

/-- T7: the preamble seam. -/
theorem test_win0 : nextHas (exec .win0 { inPhase 3 0 1 1 with out := [(320, testSample 48)] }) (fun t =>
    decide (t.out = [(320, smp 657 1104)])) = true := by decide +kernel

/-- T7: the seam of symbol 1. -/
theorem test_wink : nextHas (exec .wink { inPhase 4 0 1 2 with out := [(336, testSample 0), (400, testSample 112)] }) (fun t =>
    decide (t.out = [(336, testSample 0), (400, smp 66 (-56))])) = true := by decide +kernel

/-- T4 (c): two tail zeros for `pad_tail = 3`, the first tail cell left alone. -/
theorem test_padt : nextHas (exec .padt (inPhase 5 5 3 1)) (fun t =>
    decide (t.out = [(406, smp 0 0), (407, smp 0 0)])) = true := by decide +kernel

/-- T8 (a), the input side: `CONSUME(64)`. -/
theorem test_consume : nextHas (exec .consume { inPhase 6 0 0 1 with
      inn := testSamples 0 80
      inTags := [⟨3, .other, 7⟩, bs 0 1, ⟨70, .other, 9⟩] }) (fun t =>
    decide (t.inn[0]? = some (testSample 64)) && decide (t.inTags = [⟨6, .other, 9⟩]) && decide (t.inPos = 64)) = true := by
  decide +kernel

/-- P3: the record of the second burst stands at 403 and carries 483. -/
theorem test_tagout : nextHas (exec .tagout { inPhase 7 2 0 2 with ostream := List.replicate 403 (smp 0 0) }) (fun t =>
    decide (t.outTags = [⟨403, .burstBoundary, 483⟩])) = true := by decide +kernel

/-- T3: 401 samples are produced, the cells nobody wrote among them. -/
theorem test_produce : nextHas (exec .produce { inPhase 8 0 0 1 with out := [(7, smp 1 2)] }) (fun t =>
    decide (t.outPos = 401) && streamIs t [(7, smp 1 2)] && decide (t.out = [])) = true := by decide +kernel

/-- R135: finished exactly when `E` and `R`. -/
theorem test_eodchk : nextHas (exec .eodchk (inPhase 9 0 0 1)) (fun t => t.outFin && t.fin && decide (t.job = none)) = true ∧
    nextHas (exec .eodchk { inPhase 9 0 0 1 with job := some ⟨9, 1, true, false⟩ }) (fun t => !t.outFin && !t.fin) = true := by
  decide +kernel

/-- T9, second row: other taps move the two blended cells only. -/
theorem test_taps : nextHas (step { t1 with par := { Params.default with tapPre := 319, tapSym := 15 } }) (fun t =>
    streamIs t [(319, smp 1319 2319), (320, .b32 ⟨0x442c2000, 0x448df000⟩), (400, .b32 ⟨0x42c30000, 0xc2af0000⟩)]) = true := by
  decide +kernel

/-- R87 and log 28: `PUSH 64`, `PUSH 10 from 0`, `PUSH 1`: the last sample is `X(64)`. -/
theorem test_push_from : nextHas (runLines [.push 64 none, .push 10 (some 0), .push 1 none] ⟨State.reset, 0⟩) (fun b =>
    decide (b.st.inn[64]? = some (testSample 0)) && decide (b.st.inn[74]? = some (testSample 64))) = true := by
  decide +kernel

/-! ## The average: T11 -/

/-- R11, D6: the default `zero`; another instance has another `zero`, which `PADF` writes. -/
theorem test_numerics_zero : State.reset.zero = .b32 ⟨0, 0⟩ ∧
    nextHas (exec .padf { inPhase 0 5 0 1 with par := { Params.default with numerics := ⟨.other 7, .halfOfSum⟩ } }) (fun t =>
      cellsAre t [(0, .other 7), (4, .other 7)]) = true := by decide +kernel

/-- R128, R11: another instance's average is what its list says, on samples of another type. -/
theorem test_numerics_average : nextHas (exec .win0 { inPhase 3 0 1 1 with
      out := [(320, .other 3)]
      par := { Params.default with numerics := ⟨.other 0, .given [((.other 3, smp 1256 2256), .other 9)] 0⟩ } }) (fun t =>
    decide (t.out = [(320, .other 9)])) = true := by decide +kernel

theorem test_avg_exact : avg32 0x3f800000 0x40000000 = 0x3fc00000 ∧ avg32 0x40400000 0xc0400000 = 0 ∧
    avg32 0x4b800000 0x3f800000 = 0x4b000000 ∧ avg32 0x4b800001 0x3f800000 = 0x4b000002 ∧
    avg32 0x3dcccccd 0x3e4ccccd = 0x3e19999a := by decide +kernel

theorem test_avg_ends : avg32 0x7f7fffff 0x7f7fffff = 0x7f800000 ∧ avg32 1 0 = 0 ∧ avg32 3 0 = 2 ∧
    avg32 0x80000000 0 = 0 ∧ avg32 0x80000000 0x80000000 = 0x80000000 ∧ avg32 0x7f800000 0x3f800000 = 0x7f800000 := by
  decide +kernel

/-- T11, last row: infinities of opposite signs give a NaN of free payload. -/
theorem test_avg_invalid :
    add32 0x7f800000 0xff800000 = f32NanOf (Config.freeAddNan 0x7f800000 0xff800000) := if_pos (by decide)

end Sys2Proof.Tests
end

