-- ==== Sys2Proof/Tests/Witnesses.lean ====
section
/-! SUPPORT. For every statement with hypotheses, a concrete state and operands that meet them together; where a statement has
several clauses, one for each, at a boundary of its range where it has one. -/

set_option Elab.async false

namespace Sys2Proof.Tests

open Sys2Proof.Machine

/-! ## Helpers -/

theorem running_of {s : State} (h : (!s.fin && !s.flt && decide (s.job = none)) = true) : Running s := by
  simp_all [Running.mk]

theorem marked_of {s : State} {t : TagRec} (h : (decide (s.sel = some t) && decide (t.value ≠ 0) && s.fits t.value) = true) :
    Marked s t := by
  simp at h
  exact ⟨h.1.1, h.1.2, h.2⟩

theorem emittable_of {s : State} {t : TagRec}
    (h : (decide (s.sel = some t) && decide (t.value ≠ 0) && s.fits t.value && decide (t.index = 0) &&
      decide (64 * t.value ≤ s.inLen) && decide (s.padFront + max s.padTail 1 + 80 * t.value + 320 ≤ s.outCap) &&
      decide s.par.Ok) = true) : Emittable s t := by
  simp only [Bool.and_eq_true, decide_eq_true_eq] at h
  obtain ⟨⟨⟨⟨⟨⟨a, b⟩, c⟩, d⟩, e⟩, f⟩, g⟩ := h
  exact ⟨⟨a, b, c⟩, d, e, f, g⟩

/-- The host's next step is `h`, and nothing after it. -/
def hosted (h : HostStep) (s : State) : State := { s with agenda := [h] }

/-- Done, with a fresh marker and capacity (the example of R91). -/
def doneState : State := { t1 with status := 1, outFin := true }

/-- Faulted by a marker at index 5 (T10 (a)). -/
def faultedState : State := { gated [bs 5 2] 133 false 1000 with status := 2, fltCode := 1, fltInfo := 5 }

/-- A state with nothing produced meets the invariant when its plain fields do. -/
theorem inv_of {s : State}
    (h : (decide s.par.Ok && decide (s.padFront < 2 ^ s.par.wordBits ∧ s.padTail < 2 ^ s.par.wordBits) &&
      !(s.fin && s.flt) && decide (s.fin = s.outFin) &&
      (if s.flt then decide (s.fltCode = markerMisaligned ∧ s.fltInfo ≠ 0) else decide (s.fltCode = 0 ∧ s.fltInfo = 0)) &&
      decide (s.fltInfo < 2 ^ s.par.wordBits) && decide (s.inLen ≤ s.par.inCap) && decide (s.outCap ≤ s.par.outCap) &&
      tagsFit s.par.wordBits s.inTags && decide (s.out = []) && decide (s.outTags = []) && decide (s.ostream = []) &&
      decide (s.inPos = 0) && decide (s.job = none)) = true) : s.Inv := by
  simp only [Bool.and_eq_true, decide_eq_true_eq] at h
  obtain ⟨⟨⟨⟨⟨⟨⟨⟨⟨⟨⟨⟨⟨a, b⟩, c⟩, d⟩, e⟩, f⟩, g⟩, i⟩, j⟩, k⟩, l⟩, m⟩, n⟩, o⟩ := h
  refine ⟨a, b, by cases hf : s.fin <;> cases hg : s.flt <;> simp_all, d, ?_, f, g, i, ?_, by rw [k]; exact wf_nil, by simp [k], ?_, by simp [n], ?_, o⟩
  · split at e <;> simp_all
  · intro t ht
    simpa using List.all_eq_true.1 j t ht
  · simp [l, m, State.outPos, tiles]
  · simp [l, m, n, State.outPos]

/-! ## Words and records -/

theorem witness_ReservedWordsAreRefused :
    (10 ≤ 10 ∧ 15 < 16) ∧ ((1 < 64) ∧ (condRows.filter fun row => 1 &&& row.1 == row.2) = []) ∧
    ((63 < 64) ∧ (condRows.filter fun row => 61 &&& row.1 == row.2) ≠ []) ∧
    ∃ (s : State) (j : Job), s.job = some j ∧ 10 ≤ j.phase.toNat :=
  ⟨by decide, by decide, by decide, inPhase 10 0 0 1, _, rfl, by decide⟩

theorem witness_TagRecordFields : (⟨255, .burstStart, 255⟩ : TagRec).index < 2 ^ 8 ∧
    (⟨255, .burstStart, 255⟩ : TagRec).value < 2 ^ 8 ∧ packTag 8 ⟨255, .burstStart, 255⟩ = 0x01ffff := by decide

theorem witness_SampleAndConfigWordFields : 255 < 2 ^ 8 ∧ 0 < 2 ^ 8 ∧ packCfg 8 255 0 = 255 ∧ packCfg 8 0 255 = 0xff00 ∧
    (sampleBytes ⟨0x11223344, 0x55667788⟩)[3]? = some 0x11 ∧ (sampleBytes ⟨0x11223344, 0x55667788⟩)[4 + 0]? = some 0x88 := by
  decide

/-! ## Which operation runs -/

theorem witness_MarkerSelection : (gated [bs 64 2, bs 0 1] 192 false 0).sel = some (bs 0 1) ∧
    (gated [bs 0 2, bs 0 1] 128 false 0).sel = some (bs 0 2) ∧ (gated [bs 5 1] 5 false 0).sel = none := by decide +kernel

theorem witness_OtherKindsAreIgnored :
    (gated [⟨0, .other, 7⟩, bs 5 2] 133 false 1000).cond = (gated [bs 5 2] 133 false 1000).cond := by decide +kernel

/-- The terminal clauses. -/
theorem witness_OperationPriority_terminal :
    doneState.job = none ∧ doneState.fin = true ∧ faultedState.job = none ∧ faultedState.fin = false ∧
    faultedState.flt = true := by decide +kernel

/-- No marker; the two refusals; a misplaced marker. -/
theorem witness_OperationPriority_marker :
    (Running (gated [] 0 true 0) ∧ (gated [] 0 true 0).sel = none) ∧
    (Running (gated [bs 0 0] 1 false 0) ∧ (gated [bs 0 0] 1 false 0).sel = some (bs 0 0)) ∧
    (∃ s : State, Running s ∧ s.sel = some (bs 0 820) ∧ s.fits 820 = false) ∧
    (Running (gated [bs 1 1] 2 false 0) ∧ Marked (gated [bs 1 1] 2 false 0) (bs 1 1)) :=
  ⟨⟨running_of (by decide +kernel), by decide +kernel⟩, ⟨running_of (by decide +kernel), by decide +kernel⟩,
    ⟨{ gated [bs 0 820] 1 false 0 with par := { Params.default with wordBits := 16 } }, running_of (by decide +kernel),
      by decide +kernel, by decide +kernel⟩,
    running_of (by decide +kernel), marked_of (by decide +kernel)⟩

/-- The gate at its bounds (T3): 63 of 64 samples, 400 of 401 cells, both exact. -/
theorem witness_OperationPriority_gate :
    (Running (gated [bs 0 1] 63 false 401) ∧ Marked (gated [bs 0 1] 63 false 401) (bs 0 1) ∧
      selects (gated [bs 0 1] 63 false 401) (.waitIn false true) = true) ∧
    (Marked (gated [bs 0 1] 64 false 400) (bs 0 1) ∧ selects (gated [bs 0 1] 64 false 400) (.waitOut false true) = true) ∧
    (Marked (gated [bs 0 1] 64 false 401) (bs 0 1) ∧ selects (gated [bs 0 1] 64 false 401) (.emit true) = true) ∧
    (Marked (gated [bs 0 1] 128 true 401) (bs 0 1) ∧ selects (gated [bs 0 1] 128 true 401) .emitEod = true) ∧
    (Marked (gated [bs 0 1] 127 true 401) (bs 0 1) ∧ selects (gated [bs 0 1] 127 true 401) .emitFin = true) :=
  ⟨⟨running_of (by decide +kernel), marked_of (by decide +kernel), by decide +kernel⟩,
    ⟨marked_of (by decide +kernel), by decide +kernel⟩, ⟨marked_of (by decide +kernel), by decide +kernel⟩,
    ⟨marked_of (by decide +kernel), by decide +kernel⟩, ⟨marked_of (by decide +kernel), by decide +kernel⟩⟩

theorem witness_StepRunsSelectedOperation :
    (t1.agenda = [] ∧ t1.operation = .next (.emit true)) ∧
    ((inPhase 0 0 0 1).job ≠ none ∧ (inPhase 0 0 0 1).operation = .next .padf) ∧
    ((hosted .invoke t1).job = none ∧ (hosted .invoke t1).agenda = .invoke :: [] ∧
      (hosted .invoke t1).operation = .next (.emit true)) :=
  ⟨⟨rfl, operation_of_selects (by decide +kernel)⟩, ⟨by decide +kernel, operation_of_selects (by decide +kernel)⟩,
    rfl, rfl, operation_of_selects (by decide +kernel)⟩

theorem witness_PlacedWordIsSelected :
    decodeWord .cond 0b110111 = .ok (.emit true) ∧ decodeWord .status 0b10 = .ok (.nopTermFlt false) ∧
    decodeWord .phase 9 = .ok .eodchk ∧ State.reset.fits 1 = true := by decide +kernel

/-- T10 (d), `W = 16`: 815 symbols fit, 820 do not. -/
theorem witness_AdmittedSubset : ∃ s : State, s.par.wordBits = 16 ∧ s.fits 815 = true ∧ s.fits 820 = false :=
  ⟨{ gated [] 0 false 0 with par := { Params.default with wordBits := 16 } }, rfl, by decide +kernel, by decide +kernel⟩

/-! ## The operations that move no sample -/

theorem witness_NoEffectOperationsComplete : ∃ b c, Instr.waitOut true false = .waitIn b c ∨ Instr.waitOut true false = .waitOut b c :=
  ⟨true, false, .inr rfl⟩

theorem witness_TerminalInvocationWritesNothing :
    (doneState.job = none ∧ doneState.fin = true) ∧ (faultedState.job = none ∧ faultedState.flt = true) := by
  decide +kernel

theorem witness_IdleWritesNothing : Running (gated [] 50 false 1000) ∧ (gated [] 50 false 1000).sel = none ∧
    (gated [] 50 false 1000).inEod = false :=
  ⟨running_of (by decide +kernel), by decide +kernel, rfl⟩

theorem witness_FinishSignalsEnd : Running (gated [] 50 true 1000) ∧ (gated [] 50 true 1000).sel = none ∧
    (gated [] 50 true 1000).inEod = true :=
  ⟨running_of (by decide +kernel), by decide +kernel, rfl⟩

theorem witness_FaultRecordsMisplacedMarker : Running (gated [bs 1 1] 11 true 0) ∧
    Marked (gated [bs 1 1] 11 true 0) (bs 1 1) ∧ (bs 1 1).index ≠ 0 :=
  ⟨running_of (by decide +kernel), marked_of (by decide +kernel), by decide⟩

theorem witness_WaitWritesNothing : Running (gated [bs 0 1] 64 false 400) ∧
    Marked (gated [bs 0 1] 64 false 400) (bs 0 1) ∧ (bs 0 1).index = 0 ∧ (gated [bs 0 1] 64 false 400).gate 1 = false :=
  ⟨running_of (by decide +kernel), marked_of (by decide +kernel), rfl, by decide +kernel⟩

theorem witness_InadmissibleCountIsRefused :
    (Running (gated [bs 2 0] 3 false 0) ∧ (gated [bs 2 0] 3 false 0).sel = some (bs 2 0)) ∧
    ∃ s : State, Running s ∧ s.sel = some (bs 0 820) ∧ (bs 0 820).value ≠ 0 ∧ s.fits 820 = false :=
  ⟨⟨running_of (by decide +kernel), by decide +kernel⟩,
    { gated [bs 0 820] 1 false 0 with par := { Params.default with wordBits := 16 } }, running_of (by decide +kernel),
    by decide +kernel, by decide, by decide +kernel⟩

theorem witness_NoMutationWithoutEmission : ∃ s t i, s.job = none ∧ s.operation = .next i ∧ exec i s = .next t ∧
    emits i = false :=
  ⟨gated [] 50 true 1000, _, .finish, rfl, operation_of_selects (by decide +kernel), rfl, rfl⟩

theorem witness_GateIsMonotone :
    (gated [bs 0 1] 64 false 401).inLen ≤ (gated [bs 0 1] 65 false 402).inLen ∧
    (gated [bs 0 1] 64 false 401).outCap ≤ (gated [bs 0 1] 65 false 402).outCap ∧
    (gated [bs 0 1] 64 false 401).gate 1 = true := by decide +kernel

/-! ## The emission: T1 -/

/-- The premise of every statement about an emission, at the exact capacities. -/
theorem witness_Emittable : Emittable t1 (bs 0 2) := emittable_of (by decide +kernel)

/-- With `EMIT_FIN`'s bits as well. -/
theorem witness_EmitFinFramesBurstAndSignalsEnd : Emittable { t1 with inEod := true } (bs 0 2) :=
  emittable_of (by decide +kernel)

theorem witness_EmitFramesBurst : Emittable t1 (bs 0 2) := witness_Emittable

theorem witness_PreambleRegionEqualsTable : Emittable t1 (bs 0 2) ∧ emits .emitEod = true := ⟨witness_Emittable, rfl⟩

/-- The inner ranges: symbol 1 of two, prefix cells 1 and 15, data cells 0 and 63, taps inside the ROM. -/
theorem witness_SymbolsRoundTrip_BlendedCells : Emittable t1 (bs 0 2) ∧ (1 < (bs 0 2).value) ∧ t1.par.tapPre < 320 ∧
    (t1.inn[64 * 1 + 63]?).isSome = true :=
  ⟨witness_Emittable, by decide, by decide, by decide +kernel⟩

/-- Front padding and more than one tail sample. -/
theorem witness_PaddingAndFirstTailSample : ∃ s : State, Emittable s (bs 0 1) ∧ 4 < s.padFront ∧ 2 < max s.padTail 1 :=
  ⟨{ gated [bs 0 1] 64 false 408 with padFront := 5, padTail := 3 }, emittable_of (by decide +kernel), by decide +kernel,
    by decide +kernel⟩

theorem witness_PadTailZeroAndOneAgree : t1.job = none ∧ (∃ t, step { t1 with padTail := 0, agenda := [] } = .next t) ∧
    ∃ t, step { t1 with padTail := 1, agenda := [] } = .next t :=
  ⟨rfl, exists_of_isNext (by decide +kernel), exists_of_isNext (by decide +kernel)⟩

theorem witness_PriorContentShowsInOneSample : Emittable t1 (bs 0 2) ∧ emits .emitFin = true ∧ t1.out ≠ [(480, smp 1 2)] :=
  ⟨witness_Emittable, rfl, by decide +kernel⟩

theorem witness_PhasesOneByOneAreTheEmission : Marked t1 (bs 0 2) := witness_Emittable.marked

/-! ## The micro-operations -/

theorem witness_PadfWritesZeros : { inPhase 0 5 0 1 with outCap := 5 }.padFront ≤ { inPhase 0 5 0 1 with outCap := 5 }.outCap ∧
    (inPhase 0 0 0 1).padFront = 0 := by decide +kernel

theorem witness_PreCopiesTable :
    { inPhase 1 3 0 1 with outCap := 323 }.padFront + 320 ≤ { inPhase 1 3 0 1 with outCap := 323 }.outCap := by
  decide +kernel

theorem witness_CpsymWritesSpans : ∃ (s : State) (j : Job), s.job = some j ∧ 64 * j.count ≤ s.inLen ∧
    s.padFront + 320 + 80 * j.count ≤ s.outCap ∧ 1 < j.count :=
  ⟨{ inPhase 2 0 1 2 with outCap := 480 }, _, rfl, by decide +kernel, by decide +kernel, by decide⟩

theorem witness_Win0BlendsPreambleSeam :
    { inPhase 3 0 1 1 with outCap := 321 }.padFront + 320 < { inPhase 3 0 1 1 with outCap := 321 }.outCap ∧
    (inPhase 3 0 1 1).par.tapPre < 320 := by decide +kernel

theorem witness_WinkBlendsSymbolSeams : ∃ (s : State) (j : Job), s.job = some j ∧ s.par.Ok ∧
    s.padFront + 320 + 80 * j.count ≤ s.outCap ∧ 1 < j.count ∧ s.par.tapSym = 79 :=
  ⟨{ inPhase 4 0 1 2 with outCap := 480, par := { Params.default with tapSym := 79 } }, _, rfl, by decide +kernel,
    by decide +kernel, by decide, rfl⟩

theorem witness_PadtLeavesFirstTailCell : (∃ (s : State) (j : Job), s.job = some j ∧
      s.padFront + 320 + 80 * j.count + max s.padTail 1 ≤ s.outCap ∧ 2 < max s.padTail 1) ∧
    ∃ (s : State) (j : Job), s.job = some j ∧ s.padTail < 2 ∧ s.outCap = 0 :=
  ⟨⟨{ inPhase 5 5 3 1 with outCap := 408 }, _, rfl, by decide +kernel, by decide +kernel⟩,
    { inPhase 5 5 1 1 with outCap := 0 }, _, rfl, by decide +kernel⟩

theorem witness_ConsumeRebases : ∃ (s : State) (j : Job), s.job = some j ∧ 64 * j.count ≤ s.inLen ∧ s.inTags ≠ [] :=
  ⟨inPhase 6 0 0 1, _, rfl, by decide +kernel, by decide +kernel⟩

theorem witness_TagoutMarksBurst : ∃ (s : State) (j : Job), s.job = some j ∧ 0 < s.outCap :=
  ⟨{ inPhase 7 0 0 1 with outCap := 1 }, _, rfl, by decide +kernel⟩

theorem witness_ProduceAppendsBurst : ∃ (s : State) (j : Job), s.job = some j ∧
    s.padFront + max s.padTail 1 + 80 * j.count + 320 ≤ s.outCap :=
  ⟨{ inPhase 8 0 0 1 with outCap := 401 }, _, rfl, by decide +kernel⟩

theorem witness_EodchkSignalsLastBurst : (∃ (s : State) (j : Job), s.job = some j ∧ j.e = true ∧ j.r = true) ∧
    ∃ (s : State) (j : Job), s.job = some j ∧ ¬ (j.e = true ∧ j.r = true) :=
  ⟨⟨inPhase 9 0 0 1, _, rfl, rfl, rfl⟩, { inPhase 9 0 0 1 with job := some ⟨9, 1, true, false⟩ }, _, rfl, by decide⟩

theorem witness_LatchedOperandsNeeded : t1.job = none ∧ Instr.cpsym = .cpsym := ⟨rfl, rfl⟩

/-- `PADF`, `PRE`, `WIN0` on both sides. -/
theorem witness_AccessOutsideSpaceFaults :
    (∃ s : State, s.outCap < s.padFront) ∧ (∃ s : State, s.outCap < s.padFront + 320) ∧
    (∃ s : State, s.outCap ≤ s.padFront + 320) ∧ ∃ s : State, s.padFront + 320 < s.outCap ∧ 320 ≤ s.par.tapPre :=
  ⟨⟨{ inPhase 0 5 0 1 with outCap := 4 }, by decide +kernel⟩, ⟨{ inPhase 1 3 0 1 with outCap := 322 }, by decide +kernel⟩,
    ⟨{ inPhase 3 3 0 1 with outCap := 323 }, by decide +kernel⟩,
    { inPhase 3 3 0 1 with outCap := 324, par := { Params.default with tapPre := 320 } }, by decide +kernel⟩

/-- `CPSYM` one sample short of its second symbol, and one cell short of its second span. -/
theorem witness_AccessOutsideSpaceFaults_cpsym :
    (∃ (s : State) (j : Job), s.job = some j ∧ s.inLen / 64 < j.count ∧
      s.inLen / 64 ≤ (s.outCap - (s.padFront + 320)) / 80) ∧
    ∃ (s : State) (j : Job), s.job = some j ∧ (s.outCap - (s.padFront + 320)) / 80 < j.count ∧
      (s.outCap - (s.padFront + 320)) / 80 < s.inLen / 64 :=
  ⟨⟨{ inPhase 2 0 0 2 with inn := testSamples 0 127, outCap := 400 }, _, rfl, by decide +kernel⟩,
    { inPhase 2 0 0 2 with outCap := 479 }, _, rfl, by decide +kernel⟩

/-- `WINK`, by its cell and by its partner; `PADT`; `CONSUME`; `TAGOUT`; `PRODUCE`. -/
theorem witness_AccessOutsideSpaceFaults_latched :
    (∃ (s : State) (j : Job), s.job = some j ∧ 1 < j.count ∧ s.outCap ≤ s.padFront + 320 + 80 * 1) ∧
    (∃ (s : State) (j : Job), s.job = some j ∧ 1 < j.count ∧ s.outCap ≤ s.padFront + 320 + 80 * (1 - 1) + s.par.tapSym) ∧
    (∃ (s : State) (j : Job), s.job = some j ∧ 2 ≤ s.padTail ∧ s.outCap < s.padFront + 320 + 80 * j.count + s.padTail) ∧
    (∃ (s : State) (j : Job), s.job = some j ∧ s.inLen < 64 * j.count) ∧
    (∃ (s : State) (j : Job), s.job = some j ∧ s.outCap = 0) ∧
    ∃ (s : State) (j : Job), s.job = some j ∧ s.outCap < s.padFront + max s.padTail 1 + 80 * j.count + 320 :=
  ⟨⟨{ inPhase 4 0 0 2 with outCap := 400 }, _, rfl, by decide +kernel⟩,
    ⟨{ inPhase 4 0 0 2 with outCap := 401, par := { Params.default with tapSym := 81 } }, _, rfl, by decide +kernel⟩,
    ⟨{ inPhase 5 0 2 1 with outCap := 401 }, _, rfl, by decide +kernel⟩,
    ⟨{ inPhase 6 0 0 1 with inn := testSamples 0 63 }, _, rfl, by decide +kernel⟩,
    ⟨{ inPhase 7 0 0 1 with outCap := 0 }, _, rfl, by decide +kernel⟩,
    { inPhase 8 0 0 1 with outCap := 400 }, _, rfl, by decide +kernel⟩

/-! ## The whole machine -/

theorem t1_inv : t1.Inv := inv_of (by decide +kernel)

theorem faultedState_inv : faultedState.Inv := inv_of (by decide +kernel)

/-- A state that emits a burst in its next step. -/
theorem witness_StepKeepsInvariant : t1.Inv ∧ ∃ t, step t1 = .next t := ⟨t1_inv, exists_of_isNext (by decide +kernel)⟩

theorem witness_NoAccessFault : t1.Inv ∧ faultedState.Inv := ⟨t1_inv, faultedState_inv⟩

theorem witness_ConfigurationIsReadOnly : (∃ t, step t1 = .next t) ∧ t1.aboutToConstruct = false ∧
    ∃ t, step (hosted (.construct 1 2) t1) = .next t :=
  ⟨exists_of_isNext (by decide +kernel), rfl, exists_of_isNext (by decide +kernel)⟩

theorem witness_StatusIsSticky :
    ((∃ t, step doneState = .next t) ∧ doneState.aboutToConstruct = false ∧ doneState.fin = true ∧ doneState.outFin = true) ∧
    ((∃ t, step faultedState = .next t) ∧ faultedState.flt = true ∧ faultedState.job = none) ∧
    ((∃ t, step (gated [bs 0 1] 128 true 401) = .next t) ∧ (gated [bs 0 1] 128 true 401).inEod = true) :=
  ⟨⟨exists_of_isNext (by decide +kernel), rfl, by decide +kernel, rfl⟩,
    ⟨exists_of_isNext (by decide +kernel), by decide +kernel, rfl⟩, exists_of_isNext (by decide +kernel), rfl⟩

theorem witness_OutputIsAppendOnly : (∃ t, step t1 = .next t ∧ decide (t.ostream ≠ []) = true) ∧ t1.aboutToConstruct = false :=
  ⟨exists_of_nextHas (p := fun t : State => decide (t.ostream ≠ [])) (by decide +kernel), rfl⟩

theorem witness_FinishedComesFromTwoOperations : ∃ s t i, s.job = none ∧ s.operation = .next i ∧ exec i s = .next t ∧
    s.outFin = false ∧ t.outFin = true :=
  ⟨gated [] 50 true 1000, _, .finish, rfl, operation_of_selects (by decide +kernel), rfl, rfl, rfl⟩

theorem witness_OneBoundaryPerBurst : t1.job = none ∧ t1.operation = .next (.emit true) ∧
    ∃ t, exec (.emit true) t1 = .next t ∧ decide (t.outTags ≠ t1.outTags) = true :=
  ⟨rfl, operation_of_selects (by decide +kernel),
    exists_of_nextHas (p := fun t : State => decide (t.outTags ≠ t1.outTags)) (by decide +kernel)⟩

theorem witness_SpuriousInvocationsAreHarmless :
    (doneState.job = none ∧ doneState.agenda = [] ∧ doneState.operation = .next (.nopTermFin false)) ∧
    (faultedState.operation = .next (.nopTermFlt false)) ∧ ((gated [] 50 false 1000).operation = .next .idle) ∧
    ((gated [bs 0 1] 63 false 401).operation = .next (.waitIn false true)) ∧
    ((gated [bs 0 1] 64 false 400).operation = .next (.waitOut false true)) :=
  ⟨⟨rfl, rfl, operation_of_selects (by decide +kernel)⟩, operation_of_selects (by decide +kernel),
    operation_of_selects (by decide +kernel), operation_of_selects (by decide +kernel),
    operation_of_selects (by decide +kernel)⟩

/-- Two steps, the second a new output window. -/
theorem witness_FaultedIsAbsorbing : ∃ s : State, s.Inv ∧ s.flt = true ∧
    (∀ p pt, HostStep.construct p pt ∉ s.agenda) ∧ s.agenda ≠ [] ∧ ∃ t, Host.Core.run core 2 s = .next t :=
  ⟨{ faultedState with agenda := [.invoke, .cap 5000] }, inv_of (by decide +kernel), by decide +kernel, by simp, by simp,
    exists_of_isNext (by decide +kernel)⟩

/-- P6, with the host offering more output space in between. -/
theorem witness_TruncatedBurstNeverFinishes : ∃ s : State, Running s ∧ Marked s (bs 0 2) ∧ (bs 0 2).index = 0 ∧
    s.inLen < 64 * (bs 0 2).value ∧ s.inEod = true ∧ (∀ p pt, HostStep.construct p pt ∉ s.agenda) ∧
    ∃ t, Host.Core.run core 3 s = .next t :=
  ⟨{ gated [bs 0 2] 100 true 1000 with agenda := [.invoke, .cap 5000] }, running_of (by decide +kernel),
    marked_of (by decide +kernel), rfl, by decide +kernel, rfl, by simp, exists_of_isNext (by decide +kernel)⟩

/-- P4. -/
theorem witness_EarlyFinishDropsShorterBurst : ∃ s : State, Running s ∧ s.agenda = [] ∧ Emittable s (bs 0 2) ∧
    s.inEod = true ∧ bs 128 1 ∈ s.inTags ∧ (bs 128 1).kind = .burstStart ∧ (bs 128 1).index = 64 * (bs 0 2).value ∧
    s.inLen = 64 * (bs 0 2).value + 64 * (bs 128 1).value ∧ (bs 128 1).value < (bs 0 2).value :=
  ⟨gated [bs 0 2, bs 128 1] 192 true 1000, running_of (by decide +kernel), rfl, emittable_of (by decide +kernel), rfl,
    by decide +kernel, rfl, rfl, by decide +kernel, by decide⟩

/-! ## The host -/

theorem witness_HostStepsOfTheTable :
    ((hosted (.push [smp 1 2] [bs 0 1]) (gated [] 0 false 0)).job = none ∧
      (hosted (.push [smp 1 2] [bs 0 1]) (gated [] 0 false 0)).agenda = .push [smp 1 2] [bs 0 1] :: [] ∧
      (gated [] 0 false 0).inEod = false ∧ (gated [] 0 false 0).inLen + [smp 1 2].length ≤ State.reset.par.inCap ∧
      tagsFit State.reset.par.wordBits [bs 0 1] = true) ∧
    ((hosted (.push [] []) (gated [] 0 true 0)).agenda = .push [] [] :: [] ∧ (gated [] 0 true 0).inEod = true) ∧
    (hosted .eod (gated [] 0 false 0)).agenda = .eod :: [] ∧
    ((hosted (.cap (2 ^ 64 - 1)) (gated [] 0 false 0)).agenda = .cap (2 ^ 64 - 1) :: [] ∧
      2 ^ 64 - 1 ≤ (gated [] 0 false 0).par.outCap) := by
  refine ⟨⟨rfl, rfl, rfl, ?_, ?_⟩, ⟨rfl, rfl⟩, rfl, rfl, ?_⟩ <;> decide +kernel

theorem witness_ConstructionResets : (hosted (.construct 65535 0) faultedState).job = none ∧
    (hosted (.construct 65535 0) faultedState).agenda = .construct 65535 0 :: [] ∧
    65535 < 2 ^ faultedState.par.wordBits ∧ 0 < 2 ^ faultedState.par.wordBits := by
  refine ⟨rfl, rfl, ?_, ?_⟩ <;> decide +kernel

/-! ## The average -/

theorem witness_AverageCommutes : State.reset.par.numerics.avg = .halfOfSum ∧
    f32IsNan (add32 0x3f800000 0x40000000) = false ∧ f32IsNan (add32 0xff800000 0x7f7fffff) = false := by decide +kernel

/-- 1.0 and 2.0: the sum 3.0, its half 1.5. -/
theorem witness_AverageIsExact :
    f32IsFinite 0x3f800000 = true ∧ f32IsFinite 0x40000000 = true ∧ f32IsFinite 0x3fc00000 = true ∧
    f32IsFinite 0x40400000 = true ∧ f32Units 0x3f800000 + f32Units 0x40000000 = f32Units 0x40400000 ∧
    f32Units 0x40400000 = 2 * f32Units 0x3fc00000 := by decide +kernel

theorem witness_NonFiniteOperandsStayNonFinite : f32IsFinite 0x7f800000 = false ∧ f32IsFinite 0x7fc00001 = false := by
  decide +kernel

end Sys2Proof.Tests
end

section
/-! The scope of the model: the admitted subset (spec/00_scope.md R12). -/

namespace Sys2Proof.Machine

/-- The check of R82 as a proposition, in the operands of R76 and R77. -/
theorem fits_iff (s : State) (count : Nat) : s.fits count = true ↔
    s.padP < 2 ^ s.par.wordBits ∧ s.padTail < 2 ^ s.par.wordBits ∧ s.padT < 2 ^ s.par.wordBits ∧
    64 * count < 2 ^ s.par.wordBits ∧ 80 * count < 2 ^ s.par.wordBits ∧ s.reqOut count < 2 ^ s.par.wordBits := by
  simp only [State.fits, Bool.and_eq_true, decide_eq_true_eq, and_assoc]

/-- Settles O10: `fits_iff`, whose operands `padP`, `padT` and `reqOut` are by definition the terms of the statement. -/
theorem admittedSubset : Obligations.AdmittedSubset := fun s count => fits_iff s count

end Sys2Proof.Machine
end

section
/-! Which operation a step selects (spec/40_gating_fsm.md R89, R148): where its word comes from, and what a decoded word
says of the state. -/

namespace Sys2Proof.Machine

theorem operationOf_eq_next {f : Format} {w : Nat} {i : Instr} : operationOf f w = .next i ↔ decodeWord f w = .ok i := by
  rw [operationOf]
  split <;> simp_all

theorem decodeWord_status (w : BitVec 2) : decodeWord .status w.toNat = decodeStatus w := by
  simp [decodeWord, Format.width, w.isLt]

theorem decodeWord_cond (w : BitVec 6) : decodeWord .cond w.toNat = decodeCond w := by
  simp [decodeWord, Format.width, w.isLt]

theorem decodeWord_phase (w : BitVec 4) : decodeWord .phase w.toNat = decodePhase w := by
  simp [decodeWord, Format.width, w.isLt]

theorem ofWord_word (c : Cond) : Cond.ofWord c.word = c := by
  obtain ⟨m, z, e, i, o, r⟩ := c
  revert m z e i o r
  decide

/-- A `STATUS` word selects `NOP_TERM` only (R91). -/
theorem decodeStatus_ok {w : BitVec 2} {i : Instr} (h : decodeStatus w = .ok i) :
    ∃ b, i = .nopTermFin b ∨ i = .nopTermFlt b := by
  rw [decodeStatus] at h
  split at h
  · cases h; exact ⟨_, .inl rfl⟩
  · cases h; exact ⟨_, .inr rfl⟩
  · cases h

/-- A `COND` word selects no effect, `FINISH`, `FAULT` on a marker away from index 0, or an emission (R69). -/
theorem decodeCond_ok {c : Cond} {i : Instr} (h : decodeCond c.word = .ok i) :
    (i = .idle ∨ ∃ a b, i = .waitIn a b ∨ i = .waitOut a b) ∨ i = .finish ∨ (∃ e, i = .fault e ∧ c.z = false) ∨
      emits i = true := by
  rw [decodeCond, ofWord_word] at h
  split at h <;> cases h <;> simp [emits]

theorem decodePhase_ne_fault : ∀ (w : BitVec 4) (e : Bool), decodePhase w ≠ .ok (.fault e) := by
  decide

/-- Where the selected operation's word comes from: the phase of an emission, `STATUS` in a terminal state, or `COND` in `RUN`. -/
theorem operation_cases {s : State} {i : Instr} (h : s.operation = .next i) :
    (∃ j, s.job = some j ∧ decodePhase j.phase = .ok i) ∨
    (s.job = none ∧ decodeStatus s.status = .ok i) ∨
    (s.job = none ∧ s.fin = false ∧ s.flt = false ∧ decodeCond s.cond.word = .ok i) := by
  rw [State.operation] at h
  split at h
  next j hj => exact .inl ⟨j, hj, by rwa [operationOf_eq_next, decodeWord_phase] at h⟩
  next hj =>
    split at h
    next => exact .inr (.inl ⟨hj, by rwa [operationOf_eq_next, decodeWord_status] at h⟩)
    next hrun =>
      have run : s.fin = false ∧ s.flt = false := by simpa using hrun
      refine .inr (.inr ⟨hj, run.1, run.2, ?_⟩)
      rw [← decodeWord_cond, ← operationOf_eq_next]
      split at h
      · exact h
      · obtain ⟨_, -, h⟩ := andThen_eq_next.1 h
        exact h

/-- `FAULT` is selected in `RUN` only. -/
theorem flt_of_operation_fault {s : State} {e : Bool} (h : s.operation = .next (.fault e)) : s.flt = false := by
  obtain ⟨j, -, hd⟩ | ⟨-, hd⟩ | ⟨-, -, hflt, -⟩ := operation_cases h
  · exact absurd hd (decodePhase_ne_fault _ _)
  · simpa using decodeStatus_ok hd
  · exact hflt

/-- Where `Z = 0`, the selected marker is not at the front of the window (R66). -/
theorem index_ne_zero_of_cond {s : State} {k : TagRec} (hk : s.sel = some k) (hz : s.cond.z = false) : k.index ≠ 0 := by
  rw [State.cond, hk] at hz
  simpa using hz

end Sys2Proof.Machine
end

section
/-! What each phase of an emission, and the whole emission, can answer (spec/40_gating_fsm.md R98). Phases 0 to 5 change nothing
outside the written cells but the phase. -/

namespace Sys2Proof.Machine

theorem consumeCmd_eq_next {s t : State} {n : Nat} : consumeCmd n s = .next t ↔ n ≤ s.inLen ∧ t = s.consumed n := by
  rw [consumeCmd]
  split <;> simp_all [eq_comm]

theorem tagOutCmd_eq_next {s t : State} {off v : Nat} :
    tagOutCmd off v s = .next t ↔ off < s.outCap ∧ t = s.tagged off v := by
  rw [tagOutCmd]
  split <;> simp_all [eq_comm]

theorem produceCmd_eq_next {s t : State} {n : Nat} : produceCmd n s = .next t ↔ n ≤ s.outCap ∧ t = s.produced n := by
  rw [produceCmd]
  split <;> simp_all [eq_comm]

theorem withJob_none {s : State} (h : s.job = none) (body : Job → Res State) : withJob s body = .refused .noEmission := by
  rw [withJob, h]

/-- What the body of a loop keeps, a loop that completes keeps. -/
theorem forRange_keeps {body : Nat → State → Res State} (P : State → Prop)
    (keeps : ∀ k u v, P u → body k u = .next v → P v) {lo n : Nat} {s t : State} (start : P s)
    (h : forRange body lo n s = .next t) : P t := by
  induction n generalizing lo s with
  | zero => cases h; exact start
  | succ n ih =>
    obtain ⟨u, hu, h⟩ := andThen_eq_next.1 h
    exact ih (keeps _ _ _ start hu) h

theorem cpSymbol_next {k : Nat} {s t : State} (h : cpSymbol k s = .next t) : ∃ m, t = s.withOut m := by
  simp only [cpSymbol, andThen_eq_next, writeOut_eq_next] at h
  obtain ⟨_, -, _, ⟨-, rfl⟩, _, -, -, rfl⟩ := h
  exact ⟨_, rfl⟩

theorem blendSymbol_next {k : Nat} {s t : State} (h : blendSymbol k s = .next t) : ∃ m, t = s.withOut m := by
  simp only [blendSymbol, andThen_eq_next, writeOut_eq_next] at h
  obtain ⟨_, -, _, -, -, rfl⟩ := h
  exact ⟨_, rfl⟩

/-- A loop that writes cells only changes nothing else. -/
theorem forRange_withOut {body : Nat → State → Res State} (writes : ∀ k u v, body k u = .next v → ∃ m, v = u.withOut m)
    {lo n : Nat} {s t : State} (h : forRange body lo n s = .next t) : ∃ m, t = s.withOut m := by
  refine forRange_keeps (fun u => ∃ m, u = s.withOut m) ?_ ⟨s.out, rfl⟩ h
  rintro k _ v ⟨m, rfl⟩ hv
  obtain ⟨m', rfl⟩ := writes k _ v hv
  exact ⟨m', rfl⟩

theorem execPadf_next {s t : State} (h : execPadf s = .next t) : ∃ m, t = (s.withOut m).toPhase 1 := by
  simp only [execPadf, andThen_eq_next, writeOut_eq_next] at h
  obtain ⟨_, ⟨-, rfl⟩, h⟩ := h
  cases h
  exact ⟨_, rfl⟩

theorem execPre_next {s t : State} (h : execPre s = .next t) : ∃ m, t = (s.withOut m).toPhase 2 := by
  simp only [execPre, andThen_eq_next, writeOut_eq_next] at h
  obtain ⟨_, -, _, ⟨-, rfl⟩, h⟩ := h
  cases h
  exact ⟨_, rfl⟩

theorem execCpsym_next {s t : State} (h : execCpsym s = .next t) : ∃ m, t = (s.withOut m).toPhase 3 := by
  simp only [execCpsym, withJob_eq_next, andThen_eq_next] at h
  obtain ⟨j, -, u, hu, h⟩ := h
  obtain ⟨m, rfl⟩ := forRange_withOut (fun _ _ _ => cpSymbol_next) hu
  cases h
  exact ⟨m, rfl⟩

theorem execWin0_next {s t : State} (h : execWin0 s = .next t) : ∃ m, t = (s.withOut m).toPhase 4 := by
  simp only [execWin0, andThen_eq_next, writeOut_eq_next] at h
  obtain ⟨_, -, _, -, _, ⟨-, rfl⟩, h⟩ := h
  cases h
  exact ⟨_, rfl⟩

theorem execWink_next {s t : State} (h : execWink s = .next t) : ∃ m, t = (s.withOut m).toPhase 5 := by
  simp only [execWink, withJob_eq_next, andThen_eq_next] at h
  obtain ⟨j, -, u, hu, h⟩ := h
  obtain ⟨m, rfl⟩ := forRange_withOut (fun _ _ _ => blendSymbol_next) hu
  cases h
  exact ⟨m, rfl⟩

theorem execPadt_next {s t : State} (h : execPadt s = .next t) : ∃ m, t = (s.withOut m).toPhase 6 := by
  simp only [execPadt, withJob_eq_next, andThen_eq_next, writeOut_eq_next] at h
  obtain ⟨j, -, _, ⟨-, rfl⟩, h⟩ := h
  cases h
  exact ⟨_, rfl⟩

theorem execConsume_next {s t : State} (h : execConsume s = .next t) :
    ∃ j, s.job = some j ∧ t = (s.consumed (reqIn j.count)).toPhase 7 := by
  simp only [execConsume, withJob_eq_next, andThen_eq_next, consumeCmd_eq_next] at h
  obtain ⟨j, hj, _, ⟨-, rfl⟩, h⟩ := h
  cases h
  exact ⟨j, hj, rfl⟩

theorem execTagout_next {s t : State} (h : execTagout s = .next t) :
    ∃ j, s.job = some j ∧ t = (s.tagged 0 (s.reqOut j.count)).toPhase 8 := by
  simp only [execTagout, withJob_eq_next, andThen_eq_next, tagOutCmd_eq_next] at h
  obtain ⟨j, hj, _, ⟨-, rfl⟩, h⟩ := h
  cases h
  exact ⟨j, hj, rfl⟩

theorem execProduce_next {s t : State} (h : execProduce s = .next t) :
    ∃ j, s.job = some j ∧ t = (s.produced (s.reqOut j.count)).toPhase 9 := by
  simp only [execProduce, withJob_eq_next, andThen_eq_next, produceCmd_eq_next] at h
  obtain ⟨j, hj, _, ⟨-, rfl⟩, h⟩ := h
  cases h
  exact ⟨j, hj, rfl⟩

/-- The end of the input signalled, or not: `SET_FINISHED()` and `STATUS.FIN <- 1` (R93, R135). -/
def State.signalled (s : State) (last : Bool) : State := if last then s.setFinished.setFin else s

theorem execEodchk_next {s t : State} (h : execEodchk s = .next t) :
    ∃ j, s.job = some j ∧ t = (s.signalled (j.e && j.r)).endEmission := by
  simp only [execEodchk, withJob_eq_next] at h
  obtain ⟨j, hj, h⟩ := h
  cases h
  exact ⟨j, hj, rfl⟩

/-! The end of an emission forgets its start and its phases, and nothing that was committed. -/

@[simp] theorem latched_endEmission (s : State) (n : Nat) (e r : Bool) : (s.latched n e r).endEmission = s.endEmission := rfl
@[simp] theorem toPhase_endEmission (s : State) (p : BitVec 4) : (s.toPhase p).endEmission = s.endEmission := rfl
@[simp] theorem withOut_endEmission (s : State) (m : Memory) :
    (s.withOut m).endEmission = s.endEmission.withOut m := rfl
@[simp] theorem consumed_endEmission (s : State) (n : Nat) :
    (s.consumed n).endEmission = s.endEmission.consumed n := rfl
@[simp] theorem tagged_endEmission (s : State) (off v : Nat) :
    (s.tagged off v).endEmission = s.endEmission.tagged off v := rfl
@[simp] theorem produced_endEmission (s : State) (n : Nat) :
    (s.produced n).endEmission = s.endEmission.produced n := rfl
@[simp] theorem signalled_endEmission (s : State) (last : Bool) :
    (s.signalled last).endEmission = s.endEmission.signalled last := by
  cases last <;> rfl

/-- `s` after a burst of `count` symbols out of a window with the cells `m` is committed (R132 to R134): `State.emitted`, whatever
the samples of the burst are. -/
def State.committed (s : State) (count : Nat) (m : Memory) : State :=
  { s.emitted count with ostream := s.ostream ++ (s.withOut m).firstCells (s.reqOut count) }

/-- The three commands of the commit phases. -/
theorem committed_eq (s : State) (count : Nat) (m : Memory) :
    (((s.endEmission.withOut m).consumed (reqIn count)).tagged 0 (s.reqOut count)).produced (s.reqOut count) =
      s.committed count m := rfl

@[simp] theorem State.committed_inLen (s : State) (count : Nat) (m : Memory) :
    (s.committed count m).inLen = s.inLen - reqIn count := List.length_drop
@[simp] theorem State.committed_inPos (s : State) (count : Nat) (m : Memory) :
    (s.committed count m).inPos = s.inPos + reqIn count := rfl
@[simp] theorem State.committed_outPos (s : State) (count : Nat) (m : Memory) :
    (s.committed count m).outPos = s.outPos + s.reqOut count := by
  simp [State.committed, State.outPos]
@[simp] theorem State.committed_outTags (s : State) (count : Nat) (m : Memory) :
    (s.committed count m).outTags =
      s.outTags ++ [{ index := s.outPos, kind := .burstBoundary, value := s.reqOut count }] := rfl
@[simp] theorem State.committed_padP (s : State) (count : Nat) (m : Memory) : (s.committed count m).padP = s.padP := rfl
@[simp] theorem State.committed_padT (s : State) (count : Nat) (m : Memory) : (s.committed count m).padT = s.padT := rfl

/-- An emission that completes has committed one burst of the selected marker's count, and signalled the end with it where both
`E` and `R` hold (R96, R97). -/
theorem emission_next {e r : Bool} {s t : State} (h : emission e r s = .next t) :
    ∃ k m, s.sel = some k ∧ t = (s.committed k.value m).signalled (e && r) := by
  simp only [emission, withMarker_eq_next, emitPhases, runPhases, andThen_eq_next] at h
  obtain ⟨k, hk, _, -, s1, h1, s2, h2, s3, h3, s4, h4, s5, h5, s6, h6, s7, h7, s8, h8, s9, h9, s10, h10, h⟩ := h
  cases h
  obtain ⟨m1, rfl⟩ := execPadf_next h1
  obtain ⟨m2, rfl⟩ := execPre_next h2
  obtain ⟨m3, rfl⟩ := execCpsym_next h3
  obtain ⟨m4, rfl⟩ := execWin0_next h4
  obtain ⟨m5, rfl⟩ := execWink_next h5
  obtain ⟨m6, rfl⟩ := execPadt_next h6
  obtain ⟨j7, hj7, rfl⟩ := execConsume_next h7
  cases hj7
  obtain ⟨j8, hj8, rfl⟩ := execTagout_next h8
  cases hj8
  obtain ⟨j9, hj9, rfl⟩ := execProduce_next h9
  cases hj9
  obtain ⟨j10, hj10, rfl⟩ := execEodchk_next h10
  cases hj10
  exact ⟨k, m6, hk, by simp [← committed_eq]⟩

/-- The three rows that emit run the emission, with the bits `E` and `R` of their word. -/
theorem exec_of_emits {i : Instr} (hi : emits i = true) (s : State) : ∃ e r, exec i s = emission e r s := by
  match i, hi with
  | .emit r, _ => exact ⟨false, r, rfl⟩
  | .emitEod, _ => exact ⟨true, false, rfl⟩
  | .emitFin, _ => exact ⟨true, true, rfl⟩

theorem execFault_next {s t : State} (h : execFault s = .next t) :
    ∃ k, s.sel = some k ∧ t = s.raiseFault markerMisaligned k.index := by
  obtain ⟨k, hk, h⟩ := withMarker_eq_next.1 h
  cases h
  exact ⟨k, hk, rfl⟩

/-- What an invocation can do where no emission is in progress (R91 to R97): nothing, or, in `RUN`, signal the end, raise a
fault on a marker away from index 0, or commit a burst. -/
theorem invoke_cases {s t : State} (hj : s.job = none) (h : invoke s = .next t) :
    t = s ∨ (s.fin = false ∧ s.flt = false ∧ (t = s.signalled true ∨
      (∃ k, s.sel = some k ∧ k.index ≠ 0 ∧ t = s.raiseFault markerMisaligned k.index) ∨
      (∃ k m last, s.sel = some k ∧ t = (s.committed k.value m).signalled last))) := by
  obtain ⟨i, hop, hex⟩ := invoke_eq_next.1 h
  obtain ⟨j, hsome, -⟩ | ⟨-, hd⟩ | ⟨-, hfin, hflt, hd⟩ := operation_cases hop
  · simp [hj] at hsome
  · obtain ⟨b, rfl | rfl⟩ := decodeStatus_ok hd <;> (cases hex; exact .inl rfl)
  · obtain (rfl | ⟨a, b, rfl | rfl⟩) | rfl | ⟨e, rfl, hz⟩ | hi := decodeCond_ok hd
    · cases hex; exact .inl rfl
    · cases hex; exact .inl rfl
    · cases hex; exact .inl rfl
    · cases hex; exact .inr ⟨hfin, hflt, .inl rfl⟩
    · obtain ⟨k, hk, rfl⟩ := execFault_next hex
      exact .inr ⟨hfin, hflt, .inr (.inl ⟨k, hk, index_ne_zero_of_cond hk hz, rfl⟩)⟩
    · obtain ⟨e, r, he⟩ := exec_of_emits hi s
      obtain ⟨k, m, hk, rfl⟩ := emission_next (he ▸ hex)
      exact .inr ⟨hfin, hflt, .inr (.inr ⟨k, m, _, hk, rfl⟩)⟩

/-- Settles O41: each of these forms runs its body on the latched operands. -/
theorem latchedOperandsNeeded : Obligations.LatchedOperandsNeeded := by
  rintro s i hj (rfl | rfl | rfl | rfl | rfl | rfl | rfl) <;> exact withJob_none hj _

end Sys2Proof.Machine
end

section
/-! What a host step can answer (spec/20_memory.md R63), and how a step is an invocation or a host step (R8). -/

namespace Sys2Proof.Machine

/-- The state with other host steps to come (log 1). -/
def State.withAgenda (s : State) (steps : List HostStep) : State := { s with agenda := steps }

/-- The state after a construction with the two configuration values (R37, R162). -/
def State.constructed (s : State) (padFront padTail : Nat) : State :=
  { s with
    padFront := padFront, padTail := padTail, status := 0, fltCode := 0, fltInfo := 0,
    inn := [], inTags := [], inEod := false, inPos := 0,
    outCap := s.nextCap, out := [], ostream := [], outTags := [], outFin := false,
    job := none, draws := s.draws + 1 }

theorem tagsFit_iff {W : Nat} {ts : List TagRec} :
    tagsFit W ts = true ↔ ∀ t ∈ ts, t.index < 2 ^ W ∧ t.value < 2 ^ W := by
  simp [tagsFit]

theorem hostPush_eq_next {s t : State} {xs : List Sample} {ts : List TagRec} :
    hostPush xs ts s = .next t ↔ s.inEod = false ∧ s.inLen + xs.length ≤ s.par.inCap ∧
      (∀ r ∈ ts, r.index < 2 ^ s.par.wordBits ∧ r.value < 2 ^ s.par.wordBits) ∧
      t = { s with inn := s.inn ++ xs, inTags := s.inTags ++ ts } := by
  rw [hostPush, ← tagsFit_iff]
  split
  · simp_all
  · split
    · simp only [reduceCtorEq, false_iff]
      omega
    · split
      next hin hlen hfit =>
        have heod : s.inEod = false := by simpa using hin
        simp only [hfit, heod, Nat.not_lt.1 hlen, true_and]
        exact ⟨fun h => by cases h; rfl, fun h => by rw [h]⟩
      next hfit => simp [hfit]

theorem hostCap_eq_next {s t : State} {c : Nat} :
    hostCap c s = .next t ↔ c ≤ s.par.outCap ∧ t = { s with outCap := c, out := memClip s.out c } := by
  rw [hostCap]
  split <;> simp_all [eq_comm]

theorem hostFill_eq_next {s t : State} {a : Nat} {xs : List Sample} :
    hostFill a xs s = .next t ↔ a + xs.length ≤ s.outCap ∧ t = s.withOut (memWrite s.out a xs) := by
  rw [hostFill]
  split <;> simp_all [eq_comm]

theorem hostConstruct_eq_next {s t : State} {p pt : Nat} :
    hostConstruct p pt s = .next t ↔ (p < 2 ^ s.par.wordBits ∧ pt < 2 ^ s.par.wordBits) ∧ t = s.constructed p pt := by
  rw [hostConstruct]
  split <;> simp_all [eq_comm, State.constructed]

/-- A step that answers a next state is an invocation, or the host's next step where no emission is in progress. -/
theorem step_cases {s t : State} (h : step s = .next t) :
    invoke s = .next t ∨
    ∃ a rest, s.job = none ∧ s.agenda = a :: rest ∧ hostStep a (s.withAgenda rest) = .next t := by
  rw [step] at h
  split at h
  next => exact .inl h
  next => exact .inl h
  next hj ha => exact .inr ⟨_, _, hj, ha, h⟩

theorem aboutToConstruct_iff {s : State} :
    s.aboutToConstruct = true ↔ s.job = none ∧ ∃ p pt rest, s.agenda = .construct p pt :: rest := by
  rw [State.aboutToConstruct]
  split <;> simp_all

/-- Where the next step does not construct, the host's next step is no construction. -/
theorem ne_construct_of_aboutToConstruct {s : State} {a : HostStep} {rest : List HostStep} (hj : s.job = none)
    (ha : s.agenda = a :: rest) (h : s.aboutToConstruct = false) (p pt : Nat) : a ≠ .construct p pt := by
  rintro rfl
  exact Bool.false_ne_true (h ▸ aboutToConstruct_iff.2 ⟨hj, p, pt, rest, ha⟩)

/-- A step that constructs answers a constructed state. -/
theorem step_of_aboutToConstruct {s t : State} (hc : s.aboutToConstruct = true) (h : step s = .next t) :
    ∃ p pt rest, t = (s.withAgenda rest).constructed p pt := by
  obtain ⟨hj, p, pt, rest, ha⟩ := aboutToConstruct_iff.1 hc
  rw [step_host hj ha] at h
  exact ⟨p, pt, rest, (hostConstruct_eq_next.1 h).2⟩

end Sys2Proof.Machine
end

section
/-! The invariant of the states between steps (spec/10_state.md R38): every update a step is made of keeps it. -/

namespace Sys2Proof.Machine

/-- One more burst at the end of the stream. -/
theorem tiles_append {ts : List TagRec} {a b : Nat} (h : tiles ts a b) (n : Nat) :
    tiles (ts ++ [{ index := b, kind := .burstBoundary, value := n }]) a (b + n) := by
  induction ts generalizing a with
  | nil => cases h; exact ⟨rfl, rfl, rfl⟩
  | cons t ts ih =>
    obtain ⟨hkind, hindex, hrest⟩ := h
    exact ⟨hkind, hindex, ih hrest⟩

/-- A record that is re-based keeps its value and does not move to a higher index. -/
theorem mem_rebaseTags {n : Nat} {ts : List TagRec} {t : TagRec} (h : t ∈ rebaseTags n ts) :
    ∃ u ∈ ts, t.index ≤ u.index ∧ t.value = u.value := by
  obtain ⟨u, hu, rfl⟩ := List.mem_map.1 h
  exact ⟨u, List.mem_of_mem_filter hu, Nat.sub_le _ _, rfl⟩

/-- R37: a construction of admitted configuration values starts in the invariant, whatever was before it. -/
theorem inv_constructed {s : State} {p pt : Nat} (ok : s.par.Ok) (hp : p < 2 ^ s.par.wordBits)
    (hpt : pt < 2 ^ s.par.wordBits) : (s.constructed p pt).Inv where
  params := ok
  config := ⟨hp, hpt⟩
  status h := absurd h.1 (by simp [State.fin, State.constructed])
  finished := by simp [State.fin, State.constructed]
  cause := by simp [State.flt, State.constructed]
  info := Nat.two_pow_pos _
  input := Nat.zero_le _
  output := Nat.min_le_right _ _
  records _ h := absurd h List.not_mem_nil
  memory := wf_nil
  cells _ h := absurd h List.not_mem_nil
  bursts := rfl
  symbols := Nat.dvd_zero _
  positions := by simp [State.constructed, State.outPos]
  between := rfl

theorem inv_withAgenda {s : State} (h : s.Inv) (steps : List HostStep) : (s.withAgenda steps).Inv := { h with }

theorem inv_signalled {s : State} (h : s.Inv) (hflt : s.flt = false) (last : Bool) : (s.signalled last).Inv := by
  cases last with
  | false => exact h
  | true =>
    exact { h with
      status := by simp [State.signalled, hflt]
      finished := by simp [State.signalled]
      cause := by simpa [State.signalled, hflt] using h.cause }

/-- Fault entry on a marker away from index 0, in `RUN` (R94, R149). -/
theorem inv_raiseFault {s : State} {k : TagRec} (h : s.Inv) (hfin : s.fin = false) (hk : k ∈ s.inTags) (hi : k.index ≠ 0) :
    (s.raiseFault markerMisaligned k.index).Inv :=
  { h with
    status := by simp [hfin]
    finished := by simpa using h.finished
    cause := by simpa using hi
    info := (h.records k hk).1 }

/-- A committed burst adds one record and `P + PT + 320 + 80*L` samples for `64*L` consumed ones (R34, R38). -/
theorem inv_committed {s : State} (h : s.Inv) (count : Nat) (m : Memory) : (s.committed count m).Inv :=
  { h with
    input := by
      rw [State.committed_inLen]
      exact (Nat.sub_le _ _).trans h.input
    output := Nat.min_le_right _ _
    records := by
      intro t ht
      obtain ⟨u, hu, hindex, hvalue⟩ := mem_rebaseTags ht
      obtain ⟨hui, huv⟩ := h.records u hu
      exact ⟨hindex.trans_lt hui, hvalue ▸ huv⟩
    memory := wf_nil
    cells := fun _ hc => absurd hc List.not_mem_nil
    bursts := by simpa using tiles_append h.bursts (s.reqOut count)
    symbols := by simpa [reqIn] using (Nat.dvd_add_right h.symbols).2 (Nat.dvd_mul_right 64 count)
    positions := by
      have := h.positions
      simp only [State.committed_outPos, State.committed_outTags, State.committed_inPos, State.committed_padP,
        State.committed_padT, List.length_append, List.length_singleton, State.reqOut, reqIn, Nat.add_one_mul]
      omega
    between := rfl }

theorem invoke_keeps_inv {s t : State} (h : s.Inv) (ht : invoke s = .next t) : t.Inv := by
  obtain rfl | ⟨hfin, hflt, rfl | ⟨k, hk, hi, rfl⟩ | ⟨k, m, last, -, rfl⟩⟩ := invoke_cases h.between ht
  · exact h
  · exact inv_signalled h hflt true
  · exact inv_raiseFault h hfin (sel_mem hk).1 hi
  · exact inv_signalled (inv_committed h k.value m) hflt last

theorem hostStep_keeps_inv {a : HostStep} {s t : State} (h : s.Inv) (ht : hostStep a s = .next t) : t.Inv := by
  cases a with
  | push xs ts =>
    obtain ⟨-, hlen, hrec, rfl⟩ := hostPush_eq_next.1 ht
    exact { h with
      input := by simpa [State.inLen] using hlen
      records := fun r hr => (List.mem_append.1 hr).elim (h.records r) (hrec r) }
  | eod => cases ht; exact { h with }
  | cap c =>
    obtain ⟨hc, rfl⟩ := hostCap_eq_next.1 ht
    exact { h with
      output := hc
      memory := memClip_wf h.memory c
      cells := fun x hx => by simpa using List.of_mem_filter hx }
  | invoke => exact invoke_keeps_inv h ht
  | construct p pt =>
    obtain ⟨⟨hp, hpt⟩, rfl⟩ := hostConstruct_eq_next.1 ht
    exact inv_constructed h.params hp hpt
  | fill a xs =>
    obtain ⟨ha, rfl⟩ := hostFill_eq_next.1 ht
    exact { h with
      memory := memWrite_wf h.memory a xs
      cells := fun x hx => (mem_memWrite hx).elim (h.cells x) fun hx => hx.2.trans_le ha }

/-- Settles O43: an invocation and every host step keep the invariant. -/
theorem stepKeepsInvariant : Obligations.StepKeepsInvariant := by
  intro s t hs h
  obtain h | ⟨a, rest, -, -, h⟩ := step_cases h
  · exact invoke_keeps_inv hs h
  · exact hostStep_keeps_inv (inv_withAgenda hs rest) h

/-- The state after reset is the one a construction with `(0, 0)` makes of the first window (log 11). -/
theorem reset_eq_constructed : State.reset = ({ State.reset with draws := 0 } : State).constructed 0 0 := rfl

/-- Settles O44: the state after reset is a constructed one, with the default parameters. -/
theorem resetMeetsInvariant : Obligations.ResetMeetsInvariant := by
  rw [Obligations.ResetMeetsInvariant, reset_eq_constructed]
  exact inv_constructed (by decide) (Nat.two_pow_pos _) (Nat.two_pow_pos _)

/-- Settles O45: the values are those of the definition, where no cell is written. -/
theorem resetValues : Obligations.ResetValues :=
  ⟨rfl, rfl, rfl, rfl, rfl, rfl, rfl, rfl, rfl, rfl, rfl, rfl, fun _ => rfl⟩

end Sys2Proof.Machine
end

section
/-! What no step short of a construction undoes (spec/10_state.md R19, R20, R28, R30): a preorder on states that every update
respects, so that every step does. -/

namespace Sys2Proof.Machine

/-- `t` can be a later state of the run that `s` is in: the read-only fields are the same, what is sticky has stayed, and the
output has grown at its end. -/
structure State.Continues (s t : State) : Prop where
  par : t.par = s.par
  rom : t.rom = s.rom
  padFront : t.padFront = s.padFront
  padTail : t.padTail = s.padTail
  fin : s.fin = true → t.fin = true
  flt : s.flt = true → t.flt = true
  outFin : s.outFin = true → t.outFin = true
  inEod : s.inEod = true → t.inEod = true
  cause : s.flt = true → t.fltCode = s.fltCode ∧ t.fltInfo = s.fltInfo
  ostream : s.ostream <+: t.ostream
  outTags : s.outTags <+: t.outTags

namespace State.Continues

theorem refl (s : State) : s.Continues s :=
  ⟨rfl, rfl, rfl, rfl, id, id, id, id, fun _ => ⟨rfl, rfl⟩, List.prefix_rfl, List.prefix_rfl⟩

theorem trans {s t u : State} (h : s.Continues t) (g : t.Continues u) : s.Continues u where
  par := g.par.trans h.par
  rom := g.rom.trans h.rom
  padFront := g.padFront.trans h.padFront
  padTail := g.padTail.trans h.padTail
  fin hs := g.fin (h.fin hs)
  flt hs := g.flt (h.flt hs)
  outFin hs := g.outFin (h.outFin hs)
  inEod hs := g.inEod (h.inEod hs)
  cause hs := ⟨(g.cause (h.flt hs)).1.trans (h.cause hs).1, (g.cause (h.flt hs)).2.trans (h.cause hs).2⟩
  ostream := h.ostream.trans g.ostream
  outTags := h.outTags.trans g.outTags

theorem withAgenda (s : State) (steps : List HostStep) : s.Continues (s.withAgenda steps) := { refl s with }
theorem withOut (s : State) (m : Memory) : s.Continues (s.withOut m) := { refl s with }
theorem consumed (s : State) (n : Nat) : s.Continues (s.consumed n) := { refl s with }
theorem toPhase (s : State) (p : BitVec 4) : s.Continues (s.toPhase p) := { refl s with }
theorem endEmission (s : State) : s.Continues s.endEmission := { refl s with }

theorem produced (s : State) (n : Nat) : s.Continues (s.produced n) :=
  { refl s with ostream := List.prefix_append _ _ }

theorem tagged (s : State) (off v : Nat) : s.Continues (s.tagged off v) :=
  { refl s with outTags := List.prefix_append _ _ }

theorem signalled (s : State) (last : Bool) : s.Continues (s.signalled last) := by
  cases last with
  | false => exact refl s
  | true =>
    exact { refl s with
      fin := fun _ => s.setFinished.setFin_fin
      flt := by simp [State.signalled]
      outFin := fun _ => rfl }

/-- Fault entry keeps the recorded cause because it happens once only. -/
theorem raiseFault {s : State} (h : s.flt = false) (c : BitVec 8) (n : Nat) : s.Continues (s.raiseFault c n) :=
  { refl s with fin := by simp, flt := by simp [h], cause := by simp [h] }

theorem committed (s : State) (count : Nat) (m : Memory) : s.Continues (s.committed count m) :=
  { refl s with ostream := List.prefix_append _ _, outTags := List.prefix_append _ _ }

theorem withOut_toPhase (s : State) (m : Memory) (p : BitVec 4) : s.Continues ((s.withOut m).toPhase p) :=
  (withOut s m).trans (toPhase _ p)

end State.Continues

theorem emission_continues {e r : Bool} {s t : State} (h : emission e r s = .next t) : s.Continues t := by
  obtain ⟨k, m, -, rfl⟩ := emission_next h
  exact (State.Continues.committed s k.value m).trans (.signalled _ _)

/-- Every operation continues the run; `FAULT` needs that no fault has been raised. -/
theorem exec_continues {i : Instr} {s t : State} (hfault : ∀ e, i = .fault e → s.flt = false) (h : exec i s = .next t) :
    s.Continues t := by
  cases i with
  | nopTermFin _ | nopTermFlt _ | idle | waitIn _ _ | waitOut _ _ => cases h; exact .refl s
  | finish => cases h; exact .signalled s true
  | fault e =>
    obtain ⟨k, -, rfl⟩ := execFault_next h
    exact .raiseFault (hfault e rfl) _ _
  | emit _ | emitEod | emitFin => exact emission_continues h
  | padf => obtain ⟨m, rfl⟩ := execPadf_next h; exact .withOut_toPhase s m _
  | pre => obtain ⟨m, rfl⟩ := execPre_next h; exact .withOut_toPhase s m _
  | cpsym => obtain ⟨m, rfl⟩ := execCpsym_next h; exact .withOut_toPhase s m _
  | win0 => obtain ⟨m, rfl⟩ := execWin0_next h; exact .withOut_toPhase s m _
  | wink => obtain ⟨m, rfl⟩ := execWink_next h; exact .withOut_toPhase s m _
  | padt => obtain ⟨m, rfl⟩ := execPadt_next h; exact .withOut_toPhase s m _
  | consume => obtain ⟨j, -, rfl⟩ := execConsume_next h; exact (State.Continues.consumed s _).trans (.toPhase _ _)
  | tagout => obtain ⟨j, -, rfl⟩ := execTagout_next h; exact (State.Continues.tagged s _ _).trans (.toPhase _ _)
  | produce => obtain ⟨j, -, rfl⟩ := execProduce_next h; exact (State.Continues.produced s _).trans (.toPhase _ _)
  | eodchk => obtain ⟨j, -, rfl⟩ := execEodchk_next h; exact (State.Continues.signalled s _).trans (.endEmission _)

theorem invoke_continues {s t : State} (h : invoke s = .next t) : s.Continues t := by
  obtain ⟨i, hop, hex⟩ := invoke_eq_next.1 h
  exact exec_continues (fun e hi => flt_of_operation_fault (hi ▸ hop)) hex

theorem hostStep_continues {a : HostStep} {s t : State} (ha : ∀ p pt, a ≠ .construct p pt) (h : hostStep a s = .next t) :
    s.Continues t := by
  cases a with
  | push xs ts => obtain ⟨-, -, -, rfl⟩ := hostPush_eq_next.1 h; exact { State.Continues.refl s with }
  | eod => cases h; exact { State.Continues.refl s with inEod := fun _ => rfl }
  | cap c => obtain ⟨-, rfl⟩ := hostCap_eq_next.1 h; exact { State.Continues.refl s with }
  | invoke => exact invoke_continues h
  | construct p pt => exact absurd rfl (ha p pt)
  | fill a xs => obtain ⟨-, rfl⟩ := hostFill_eq_next.1 h; exact .withOut s _

/-- Every step continues the run, unless it constructs the framer anew. -/
theorem step_continues {s t : State} (h : step s = .next t) (hc : s.aboutToConstruct = false) : s.Continues t := by
  obtain h | ⟨a, rest, hj, ha, h⟩ := step_cases h
  · exact invoke_continues h
  · exact (State.Continues.withAgenda s rest).trans (hostStep_continues (ne_construct_of_aboutToConstruct hj ha hc) h)

/-- Settles O47: a step that constructs keeps the parameters and the ROM, any other continues the run. -/
theorem configurationIsReadOnly : Obligations.ConfigurationIsReadOnly := by
  intro s t h
  by_cases hc : s.aboutToConstruct = false
  · have run := step_continues h hc
    exact ⟨run.par, run.rom, fun _ => ⟨run.padFront, run.padTail⟩⟩
  · obtain ⟨p, pt, rest, rfl⟩ := step_of_aboutToConstruct (by simpa using hc) h
    exact ⟨rfl, rfl, fun hf => absurd hf hc⟩

/-- Settles O48: what is sticky in a run that continues. -/
theorem statusIsSticky : Obligations.StatusIsSticky := by
  intro s t h hc
  have run := step_continues h hc
  exact ⟨run.fin, run.flt, run.outFin, run.inEod, fun _ => run.cause⟩

/-- Settles O49: the output of a run that continues. -/
theorem outputIsAppendOnly : Obligations.OutputIsAppendOnly := by
  intro s t h hc
  have run := step_continues h hc
  exact ⟨run.ostream, run.outTags⟩

end Sys2Proof.Machine
end

section
/-! Accesses of the data spaces (spec/20_memory.md R45): where each micro-operation stays inside its spaces, and the fault it
answers where it does not (log 17). -/

namespace Sys2Proof.Machine

/-! The reads and the commands outside their space. -/

theorem readIn_fault {s : State} {a n : Nat} (h : s.inLen < a + n) : readIn s a n = .fault (.outsideSpace .inp) :=
  if_neg h.not_ge

theorem readRomAt_fault {s : State} {a : Nat} (h : 320 ≤ a) : readRomAt s a = .fault (.outsideSpace .rom) :=
  dif_neg h.not_gt

theorem readOutAt_fault {s : State} {i : Nat} (h : s.outCap ≤ i) : readOutAt s i = .fault (.outsideSpace .out) :=
  if_neg h.not_gt

theorem consumeCmd_fault {n : Nat} {s : State} (h : s.inLen < n) : consumeCmd n s = .fault (.outsideSpace .inp) :=
  if_neg h.not_ge

theorem tagOutCmd_fault {off v : Nat} {s : State} (h : s.outCap ≤ off) :
    tagOutCmd off v s = .fault (.outsideSpace .out) := if_neg h.not_gt

theorem produceCmd_fault {n : Nat} {s : State} (h : s.outCap < n) : produceCmd n s = .fault (.outsideSpace .out) :=
  if_neg h.not_ge

/-- A read inside the input window answers as many samples as it was asked for. -/
theorem readIn_complete {s : State} {a n : Nat} (h : a + n ≤ s.inLen) :
    ∃ vs, vs.length = n ∧ readIn s a n = .next vs := by
  refine ⟨_, ?_, readIn_next h⟩
  rw [State.inLen] at h
  simp
  omega

/-! Loops that write cells only. -/

/-- Where every index of such a loop can be run, the loop can. -/
theorem forRange_withOut_complete {body : Nat → State → Res State} {s : State} {lo n : Nat}
    (h : ∀ k m, lo ≤ k → k < lo + n → ∃ m', body k (s.withOut m) = .next (s.withOut m')) :
    ∃ m, forRange body lo n s = .next (s.withOut m) := by
  obtain ⟨_, ht, m, rfl⟩ := forRange_complete body (fun _ u => ∃ m, u = s.withOut m) lo n s ⟨s.out, rfl⟩ (by
    rintro k _ hlo hhi ⟨m, rfl⟩
    obtain ⟨m', h'⟩ := h k m hlo hhi
    exact ⟨_, h', m', rfl⟩)
  exact ⟨m, ht⟩

/-- Such a loop stops at the first index that faults. -/
theorem forRange_withOut_fault {body : Nat → State → Res State} {s : State} {lo n at_ : Nat} {e : Fault} (low : lo ≤ at_)
    (high : at_ < lo + n) (next : ∀ k m, lo ≤ k → k < at_ → ∃ m', body k (s.withOut m) = .next (s.withOut m'))
    (stop : ∀ m, body at_ (s.withOut m) = .fault e) : forRange body lo n s = .fault e := by
  refine forRange_fault body (fun _ u => ∃ m, u = s.withOut m) at_ e lo n s low high ⟨s.out, rfl⟩ ?_ ?_
  · rintro k _ hlo hat ⟨m, rfl⟩
    obtain ⟨m', h'⟩ := next k m hlo hat
    exact ⟨_, h', m', rfl⟩
  · rintro _ ⟨m, rfl⟩
    exact stop m

/-! `PADF`, `PRE` and `PADT`: one write each. -/

theorem execPadf_complete {s : State} (h : s.padP ≤ s.outCap) : ∃ m, execPadf s = .next ((s.withOut m).toPhase 1) :=
  ⟨_, by rw [execPadf, writeOut_next (by simpa using h), andThen_next]⟩

theorem execPadf_fault {s : State} (h : s.outCap < s.padP) : execPadf s = .fault (.outsideSpace .out) := by
  have some_cell : List.replicate s.padP s.zero ≠ [] := by simp; omega
  rw [execPadf, writeOut_fault (by simpa using h) some_cell, andThen_fault]

theorem execPre_complete {s : State} (h : s.padP + 320 ≤ s.outCap) :
    ∃ m, execPre s = .next ((s.withOut m).toPhase 2) :=
  ⟨_, by rw [execPre, readRom_whole, andThen_next, writeOut_next (by simpa using h), andThen_next]⟩

theorem execPre_fault {s : State} (h : s.outCap < s.padP + 320) : execPre s = .fault (.outsideSpace .out) := by
  have some_cell : s.rom.toList ≠ [] := List.ne_nil_of_length_pos (by simp)
  rw [execPre, readRom_whole, andThen_next, writeOut_fault (by simpa using h) some_cell, andThen_fault]

theorem execPadt_complete {s : State} {j : Job} (hj : s.job = some j) (h : s.tail0 j.count + s.padT ≤ s.outCap) :
    ∃ m, execPadt s = .next ((s.withOut m).toPhase 6) := by
  have inside : s.tail0 j.count + 1 + (s.padT - 1) ≤ s.outCap := by
    have : 1 ≤ s.padT := Nat.le_max_right _ _
    omega
  exact ⟨_, by rw [execPadt, withJob_some hj, writeOut_next (by simpa using inside), andThen_next]⟩

/-- With `PT = 1` no cell is written, so a fault needs `PT >= 2`. -/
theorem execPadt_fault {s : State} {j : Job} (hj : s.job = some j) (ht : 2 ≤ s.padT)
    (h : s.outCap < s.tail0 j.count + s.padT) : execPadt s = .fault (.outsideSpace .out) := by
  have outside : s.outCap < s.tail0 j.count + 1 + (s.padT - 1) := by omega
  have some_cell : List.replicate (s.padT - 1) s.zero ≠ [] := by simp; omega
  rw [execPadt, withJob_some hj, writeOut_fault (by simpa using outside) some_cell, andThen_fault]

/-! `CPSYM`: symbol `k` is read up to input sample `64*k + 63` and written up to cell `base_k + 79`. -/

theorem cpSymbol_complete {k : Nat} {s : State} (hin : 64 * k + 64 ≤ s.inLen) (hout : s.base k + 80 ≤ s.outCap) :
    ∃ m, cpSymbol k s = .next (s.withOut m) := by
  obtain ⟨tail, htail, hread⟩ := readIn_complete (s := s) (a := cpIndex k) (n := 16) (by rw [cpIndex]; omega)
  rw [cpSymbol, hread, andThen_next, writeOut_next (by omega), andThen_next]
  obtain ⟨body, hbody, hread⟩ :=
    readIn_complete (s := s.withOut (memWrite s.out (s.base k) tail)) (a := srcIndex k) (n := 64) hin
  rw [hread, andThen_next, writeOut_next (by simp; omega)]
  exact ⟨_, rfl⟩

theorem cpSymbol_fault_inp {k : Nat} {s : State} (hin : s.inLen < 64 * k + 64) :
    cpSymbol k s = .fault (.outsideSpace .inp) := by
  rw [cpSymbol, readIn_fault (by rw [cpIndex]; omega), andThen_fault]

/-- A whole symbol without a whole span for it: its first 16 cells or, behind them, the other 64 leave the window. -/
theorem cpSymbol_fault_out {k : Nat} {s : State} (hin : 64 * k + 64 ≤ s.inLen) (hout : s.outCap < s.base k + 80) :
    cpSymbol k s = .fault (.outsideSpace .out) := by
  obtain ⟨tail, htail, hread⟩ := readIn_complete (s := s) (a := cpIndex k) (n := 16) (by rw [cpIndex]; omega)
  rw [cpSymbol, hread, andThen_next]
  by_cases hhead : s.base k + tail.length ≤ s.outCap
  · rw [writeOut_next hhead, andThen_next]
    obtain ⟨body, hbody, hread⟩ :=
      readIn_complete (s := s.withOut (memWrite s.out (s.base k) tail)) (a := srcIndex k) (n := 64) hin
    rw [hread, andThen_next, writeOut_fault (by simp; omega) (List.ne_nil_of_length_pos (by omega))]
  · rw [writeOut_fault (by omega) (List.ne_nil_of_length_pos (by omega)), andThen_fault]

theorem execCpsym_complete {s : State} {j : Job} (hj : s.job = some j) (hin : 64 * j.count ≤ s.inLen)
    (hout : s.tail0 j.count ≤ s.outCap) : ∃ m, execCpsym s = .next ((s.withOut m).toPhase 3) := by
  rw [State.tail0] at hout
  obtain ⟨m, h⟩ := forRange_withOut_complete (body := cpSymbol) (s := s) (lo := 0) (n := j.count) fun k m _ hk =>
    cpSymbol_complete (s := s.withOut m) (by simp; omega) (by simp [State.base]; omega)
  exact ⟨m, by rw [execCpsym, withJob_some hj, h, andThen_next]⟩

/-- The whole spans that the output window has room for behind the preamble. -/
def State.spans (s : State) : Nat := (s.outCap - s.base 0) / 80

theorem lt_spans_iff {s : State} {k : Nat} : k < s.spans ↔ s.base k + 80 ≤ s.outCap := by
  rw [State.spans, State.base, State.base, Nat.lt_iff_add_one_le, Nat.le_div_iff_mul_le (by decide)]
  omega

theorem lt_symbols_iff {s : State} {k : Nat} : k < s.inLen / 64 ↔ 64 * k + 64 ≤ s.inLen := by
  omega

/-- The symbols that have both their samples and their span are framed, up to the first that misses one of them. -/
theorem execCpsym_fault {s : State} {j : Job} {k : Nat} {e : Fault} (hj : s.job = some j) (hk : k < j.count)
    (hin : k ≤ s.inLen / 64) (hout : k ≤ s.spans) (stop : ∀ m, cpSymbol k (s.withOut m) = .fault e) :
    execCpsym s = .fault e := by
  have loop : forRange cpSymbol 0 j.count s = .fault e :=
    forRange_withOut_fault (Nat.zero_le k) (by omega) (fun i m _ hi =>
      cpSymbol_complete (s := s.withOut m) (lt_symbols_iff.1 (by simp; omega)) ((lt_spans_iff (s := s)).1 (by omega))) stop
  rw [execCpsym, withJob_some hj, loop, andThen_fault]

theorem execCpsym_fault_inp {s : State} {j : Job} (hj : s.job = some j) (hin : s.inLen / 64 < j.count)
    (hle : s.inLen / 64 ≤ s.spans) : execCpsym s = .fault (.outsideSpace .inp) :=
  execCpsym_fault hj hin le_rfl hle fun _ => cpSymbol_fault_inp (by simp; omega)

theorem execCpsym_fault_out {s : State} {j : Job} (hj : s.job = some j) (hout : s.spans < j.count)
    (hlt : s.spans < s.inLen / 64) : execCpsym s = .fault (.outsideSpace .out) :=
  execCpsym_fault hj hout hlt.le le_rfl fun m =>
    cpSymbol_fault_out (s := s.withOut m) (lt_symbols_iff.1 hlt) (Nat.not_le.1 ((lt_spans_iff (s := s)).not.1 (lt_irrefl _)))

/-! `WIN0` and `WINK`: a seam cell and its partner. -/

theorem execWin0_complete {s : State} (hout : s.base 0 < s.outCap) (htap : s.par.tapPre < 320) :
    ∃ m, execWin0 s = .next ((s.withOut m).toPhase 4) :=
  ⟨_, by rw [execWin0, readOutAt_next hout, andThen_next, readRomAt_next htap, andThen_next, writeOut_next (by simpa),
    andThen_next]⟩

theorem execWin0_fault_out {s : State} (h : s.outCap ≤ s.base 0) : execWin0 s = .fault (.outsideSpace .out) := by
  rw [execWin0, readOutAt_fault h, andThen_fault]

theorem execWin0_fault_rom {s : State} (hout : s.base 0 < s.outCap) (htap : 320 ≤ s.par.tapPre) :
    execWin0 s = .fault (.outsideSpace .rom) := by
  rw [execWin0, readOutAt_next hout, andThen_next, readRomAt_fault htap, andThen_fault]

theorem blendSymbol_complete {k : Nat} {s : State} (hcell : s.base k < s.outCap)
    (hpartner : s.base (k - 1) + s.par.tapSym < s.outCap) : ∃ m, blendSymbol k s = .next (s.withOut m) :=
  ⟨_, by rw [blendSymbol, readOutAt_next hcell, andThen_next, readOutAt_next hpartner, andThen_next,
    writeOut_next (by simpa)]⟩

theorem blendSymbol_fault {k : Nat} {s : State} (h : s.outCap ≤ s.base k ∨ s.outCap ≤ s.base (k - 1) + s.par.tapSym) :
    blendSymbol k s = .fault (.outsideSpace .out) := by
  rw [blendSymbol]
  by_cases hcell : s.outCap ≤ s.base k
  · rw [readOutAt_fault hcell, andThen_fault]
  · rw [readOutAt_next (by omega), andThen_next, readOutAt_fault (h.resolve_left hcell), andThen_fault]

theorem execWink_complete {s : State} {j : Job} (hj : s.job = some j) (htap : s.par.tapSym ≤ 79)
    (hout : s.tail0 j.count ≤ s.outCap) : ∃ m, execWink s = .next ((s.withOut m).toPhase 5) := by
  rw [State.tail0] at hout
  obtain ⟨m, h⟩ := forRange_withOut_complete (body := blendSymbol) (s := s) (lo := 1) (n := j.count - 1) fun k m _ hk =>
    blendSymbol_complete (s := s.withOut m) (by simp [State.base]; omega) (by simp [State.base]; omega)
  exact ⟨m, by rw [execWink, withJob_some hj, h, andThen_next]⟩

/-- The blends before the first seam that leaves the window are made. -/
theorem execWink_fault {s : State} {j : Job} (hj : s.job = some j)
    (h : ∃ k, 1 ≤ k ∧ k < j.count ∧ (s.outCap ≤ s.base k ∨ s.outCap ≤ s.base (k - 1) + s.par.tapSym)) :
    execWink s = .fault (.outsideSpace .out) := by
  obtain ⟨hlo, hhi, hstop⟩ := Nat.find_spec h
  have loop : forRange blendSymbol 1 (j.count - 1) s = .fault (.outsideSpace .out) :=
    forRange_withOut_fault hlo (by omega) (fun i m hi hlt => by
      have inside := Nat.find_min h hlt
      exact blendSymbol_complete (s := s.withOut m) (by simp; omega) (by simp; omega))
      fun m => blendSymbol_fault (s := s.withOut m) hstop
  rw [execWink, withJob_some hj, loop, andThen_fault]

/-! The commit phases. -/

theorem execConsume_complete {s : State} {j : Job} (hj : s.job = some j) (h : reqIn j.count ≤ s.inLen) :
    execConsume s = .next ((s.consumed (reqIn j.count)).toPhase 7) := by
  rw [execConsume, withJob_some hj, consumeCmd_next h, andThen_next]

theorem execConsume_fault {s : State} {j : Job} (hj : s.job = some j) (h : s.inLen < reqIn j.count) :
    execConsume s = .fault (.outsideSpace .inp) := by
  rw [execConsume, withJob_some hj, consumeCmd_fault h, andThen_fault]

theorem execTagout_complete {s : State} {j : Job} (hj : s.job = some j) (h : 0 < s.outCap) :
    execTagout s = .next ((s.tagged 0 (s.reqOut j.count)).toPhase 8) := by
  rw [execTagout, withJob_some hj, tagOutCmd_next h, andThen_next]

theorem execTagout_fault {s : State} {j : Job} (hj : s.job = some j) (h : s.outCap = 0) :
    execTagout s = .fault (.outsideSpace .out) := by
  rw [execTagout, withJob_some hj, tagOutCmd_fault h.le, andThen_fault]

theorem execProduce_complete {s : State} {j : Job} (hj : s.job = some j) (h : s.reqOut j.count ≤ s.outCap) :
    execProduce s = .next ((s.produced (s.reqOut j.count)).toPhase 9) := by
  rw [execProduce, withJob_some hj, produceCmd_next h, andThen_next]

theorem execProduce_fault {s : State} {j : Job} (hj : s.job = some j) (h : s.outCap < s.reqOut j.count) :
    execProduce s = .fault (.outsideSpace .out) := by
  rw [execProduce, withJob_some hj, produceCmd_fault h, andThen_fault]

/-- Settles O42: the fault of each micro-operation outside its bounds. -/
theorem accessOutsideSpaceFaults : Obligations.AccessOutsideSpaceFaults :=
  ⟨fun _ => ⟨execPadf_fault, execPre_fault, execWin0_fault_out, execWin0_fault_rom⟩,
    fun _ _ hj => ⟨execCpsym_fault_inp hj, execCpsym_fault_out hj, fun k hlo hhi h => execWink_fault hj ⟨k, hlo, hhi, h⟩,
      fun ht h => execPadt_fault hj (le_max_of_le_left ht) (by rw [State.padT, max_eq_left (by omega)]; exact h),
      execConsume_fault hj, execTagout_fault hj, execProduce_fault hj⟩⟩

end Sys2Proof.Machine
end

section
/-! No step of a machine that meets the invariant leaves a space (spec/20_memory.md R45): the gate of R79 makes room for every
access of an emission, and nothing else an invocation or the host does can fault. -/

namespace Sys2Proof.Machine

/-- The middle of an emission of `count` symbols before its commit, where the gate of R79 holds and the taps are admitted. -/
structure State.Gated (s : State) (count : Nat) : Prop where
  job : ∃ p e r, s.job = some { phase := p, count := count, e := e, r := r }
  input : reqIn count ≤ s.inLen
  output : s.reqOut count ≤ s.outCap
  taps : s.par.Ok

theorem State.Gated.written {s : State} {count : Nat} (h : s.Gated count) (m : Memory) (p : BitVec 4) :
    ((s.withOut m).toPhase p).Gated count :=
  { h with job := by obtain ⟨_, e, r, hj⟩ := h.job; exact ⟨p, e, r, by simp [hj]⟩ }

/-- The burst's regions, one behind the other, end at `req_out` (R51). -/
theorem State.Gated.regions {s : State} {count : Nat} (h : s.Gated count) :
    s.padP ≤ s.outCap ∧ s.padP + 320 ≤ s.outCap ∧ s.base 0 < s.outCap ∧ s.tail0 count ≤ s.outCap ∧
      s.tail0 count + s.padT ≤ s.outCap := by
  have hout := h.output
  have some_tail : 1 ≤ s.padT := Nat.le_max_right _ _
  rw [State.reqOut] at hout
  rw [State.base, State.tail0]
  omega

/-- The phases that write the burst complete, and leave what the later phases need. -/
theorem writingPhase_complete {f : State → Res State} {s : State} {count : Nat}
    (hf : f ∈ [execPadf, execPre, execCpsym, execWin0, execWink, execPadt]) (h : s.Gated count) :
    ∃ t, f s = .next t ∧ t.Gated count := by
  obtain ⟨_, _, _, hj⟩ := h.job
  obtain ⟨hfront, hpre, hseam, hspans, htail⟩ := h.regions
  obtain ⟨tapPre, -, tapSym, -⟩ := h.taps
  suffices ∃ m p, f s = .next ((s.withOut m).toPhase p) by
    obtain ⟨m, p, hm⟩ := this
    exact ⟨_, hm, h.written m p⟩
  simp only [List.mem_cons, List.not_mem_nil, or_false] at hf
  obtain rfl | rfl | rfl | rfl | rfl | rfl := hf
  · exact (execPadf_complete hfront).imp fun _ hm => ⟨_, hm⟩
  · exact (execPre_complete hpre).imp fun _ hm => ⟨_, hm⟩
  · exact (execCpsym_complete hj h.input hspans).imp fun _ hm => ⟨_, hm⟩
  · exact (execWin0_complete hseam tapPre).imp fun _ hm => ⟨_, hm⟩
  · exact (execWink_complete hj tapSym hspans).imp fun _ hm => ⟨_, hm⟩
  · exact (execPadt_complete hj htail).imp fun _ hm => ⟨_, hm⟩

/-- The phases that commit the burst complete. -/
theorem commitPhases_complete {s : State} {count : Nat} (h : s.Gated count) :
    ∃ t, runPhases [execConsume, execTagout, execProduce, execEodchk] s = .next t := by
  obtain ⟨_, e, r, hj⟩ := h.job
  obtain ⟨-, -, hseam, -⟩ := h.regions
  have some_cell : 0 < s.outCap := Nat.zero_lt_of_lt hseam
  rw [runPhases, execConsume_complete hj h.input, andThen_next,
    runPhases, execTagout_complete (s := (s.consumed _).toPhase 7) (j := ⟨7, count, e, r⟩) (by simp [hj]) some_cell,
    andThen_next,
    runPhases, execProduce_complete (s := (((s.consumed _).toPhase 7).tagged _ _).toPhase 8) (j := ⟨8, count, e, r⟩)
      (by simp [hj]) h.output, andThen_next,
    runPhases, execEodchk, withJob_some (j := ⟨9, count, e, r⟩) (by simp [hj])]
  exact ⟨_, rfl⟩

/-- Phases that complete and keep `inv`, before phases that complete where `inv` holds. -/
theorem runPhases_append_complete (inv : State → Prop) {fs gs : List (State → Res State)}
    (keeps : ∀ f ∈ fs, ∀ u, inv u → ∃ t, f u = .next t ∧ inv t) (last : ∀ u, inv u → ∃ t, runPhases gs u = .next t)
    {s : State} (start : inv s) : ∃ t, runPhases (fs ++ gs) s = .next t := by
  induction fs generalizing s with
  | nil => exact last s start
  | cons f fs ih =>
    obtain ⟨u, hu, hi⟩ := keeps f List.mem_cons_self s start
    obtain ⟨t, ht⟩ := ih (fun g hg => keeps g (List.mem_cons_of_mem f hg)) hi
    exact ⟨t, by rw [List.cons_append, runPhases, hu, andThen_next, ht]⟩

theorem emitPhases_complete {s : State} {count : Nat} (h : s.Gated count) : ∃ t, runPhases emitPhases s = .next t :=
  runPhases_append_complete (fun u => u.Gated count) (fun _ hf _ => writingPhase_complete hf)
    (fun _ => commitPhases_complete) h

theorem withMarker_eq_fault {s : State} {body : TagRec → Res State} {e : Fault} :
    withMarker s body = .fault e ↔ ∃ t, s.sel = some t ∧ body t = .fault e := by
  rw [withMarker]
  split <;> simp_all

/-- An emission under the gate leaves no space: what it can refuse is its count. -/
theorem emission_no_fault {s : State} (ok : s.par.Ok) (gate : ∀ k, s.sel = some k → s.gate k.value = true) (e r : Bool)
    (f : Fault) : emission e r s ≠ .fault f := by
  intro h
  obtain ⟨k, hk, h⟩ := withMarker_eq_fault.1 h
  obtain h | ⟨-, -, h⟩ := andThen_eq_fault.1 h
  · exact admitCount_no_fault _ _ _ h
  · obtain ⟨hout, hin⟩ : s.reqOut k.value ≤ s.outCap ∧ reqIn k.value ≤ s.inLen := by
      simpa [State.gate, State.outputSuffices, State.inputSuffices] using gate k hk
    obtain ⟨t, ht⟩ := emitPhases_complete (s := s.latched k.value e r) ⟨⟨0, e, r, rfl⟩, hin, hout, ok⟩
    rw [ht] at h
    cases h

/-- An emission is selected only where both bits of the gate are set (R69, R96, R97). -/
theorem decodeCond_emits {c : Cond} {i : Instr} (h : decodeCond c.word = .ok i) (hi : emits i = true) :
    c.i = true ∧ c.o = true := by
  rw [decodeCond, ofWord_word] at h
  split at h <;> cases h <;> simp [emits] at hi ⊢

/-- The bits `I` and `O` are the two halves of the gate for the selected marker (R66, R79). -/
theorem gate_of_cond {s : State} {k : TagRec} (hk : s.sel = some k) (hi : s.cond.i = true) (ho : s.cond.o = true) :
    s.gate k.value = true := by
  rw [State.cond, hk] at hi ho
  obtain ⟨-, hin⟩ := Bool.and_eq_true_iff.1 hi
  obtain ⟨-, hout⟩ := Bool.and_eq_true_iff.1 ho
  rw [State.gate, hin, hout, Bool.and_self]

theorem operationOf_no_fault (f : Format) (w : Nat) (e : Fault) : operationOf f w ≠ .fault e := by
  rw [operationOf]
  split <;> simp

theorem operation_no_fault (s : State) (e : Fault) : s.operation ≠ .fault e := by
  rw [State.operation]
  split
  · exact operationOf_no_fault _ _ _
  · split
    · exact operationOf_no_fault _ _ _
    · split
      · exact operationOf_no_fault _ _ _
      · intro h
        obtain h | ⟨-, -, h⟩ := andThen_eq_fault.1 h
        · exact admitCount_no_fault _ _ _ h
        · exact operationOf_no_fault _ _ _ h

/-- Of the operations selected between emissions only an emission accesses a space. -/
theorem invoke_no_fault {s : State} (ok : s.par.Ok) (hj : s.job = none) (f : Fault) : invoke s ≠ .fault f := by
  intro h
  obtain h | ⟨i, hop, hex⟩ := andThen_eq_fault.1 h
  · exact operation_no_fault s f h
  obtain ⟨j, hsome, -⟩ | ⟨-, hd⟩ | ⟨-, -, -, hd⟩ := operation_cases hop
  · simp [hj] at hsome
  · obtain ⟨b, rfl | rfl⟩ := decodeStatus_ok hd <;> cases hex
  · obtain (rfl | ⟨a, b, rfl | rfl⟩) | rfl | ⟨e, rfl, -⟩ | hi := decodeCond_ok hd
    · cases hex
    · cases hex
    · cases hex
    · cases hex
    · obtain ⟨k, -, hraise⟩ := withMarker_eq_fault.1 hex
      cases hraise
    · obtain ⟨e, r, he⟩ := exec_of_emits hi s
      obtain ⟨hI, hO⟩ := decodeCond_emits hd hi
      exact emission_no_fault ok (fun k hk => gate_of_cond hk hI hO) e r f (he ▸ hex)

/-- A host step other than `HOST_INVOKE` completes or is refused. -/
theorem invoke_fault_of_hostStep {a : HostStep} {s : State} {f : Fault} (h : hostStep a s = .fault f) : invoke s = .fault f := by
  cases a with
  | invoke => exact h
  | eod => cases h
  | push _ _ | cap _ | construct _ _ | fill _ _ =>
    simp only [hostStep, hostPush, hostCap, hostConstruct, hostFill] at h
    split_ifs at h

/-- Settles O46: the invariant gives admitted taps and no emission in progress, so that a step is an invocation under the
gate or a host step. -/
theorem noAccessFault : Obligations.NoAccessFault := by
  intro s f inv h
  cases ha : s.agenda with
  | nil =>
    rw [step_invoke inv.between ha] at h
    exact invoke_no_fault inv.params inv.between f h
  | cons a rest =>
    rw [step_host inv.between ha] at h
    have inv' := inv_withAgenda inv rest
    exact invoke_no_fault inv'.params inv'.between f (invoke_fault_of_hostStep h)

end Sys2Proof.Machine
end

section
/-! The host steps of the table (spec/20_memory.md R63). -/

namespace Sys2Proof.Machine

theorem hostPush_after_eod {s : State} (h : s.inEod = true) (xs : List Sample) (ts : List TagRec) :
    hostPush xs ts s = .refused .pushAfterEod := if_pos h

/-- Settles O56: the host's next step, by what each of the three can answer. -/
theorem hostStepsOfTheTable : Obligations.HostStepsOfTheTable := by
  intro s rest hj
  refine ⟨fun xs ts ha heod hlen hrec => ?_, fun xs ts ha heod => ?_, fun ha => ?_, fun c ha hc => ?_⟩
  · rw [step_host hj ha]
    exact hostPush_eq_next.2 ⟨heod, hlen, hrec, rfl⟩
  · rw [step_host hj ha]
    exact hostPush_after_eod (s := s.withAgenda rest) heod xs ts
  · rw [step_host hj ha]
    rfl
  · rw [step_host hj ha]
    exact ⟨_, hostCap_eq_next.2 ⟨hc, rfl⟩, memRead_memClip s.out c⟩

end Sys2Proof.Machine
end

section
/-! The decoder and the encoder (spec/30_encoding.md R65 to R71): each undoes the other, and `COND` words are read exactly
where R66 can produce them. -/

namespace Sys2Proof

/-- What R66 says of the bits of `COND` together: `Z` needs a marker, `I` and `O` need `Z`, and `R` needs `I`. -/
abbrev Cond.Produced (c : Cond) : Prop :=
  (c.m = false → c.z = false) ∧ (c.z = false → c.i = false ∧ c.o = false) ∧ (c.i = false → c.r = false)

end Sys2Proof

namespace Sys2Proof.Machine

/-! From words to operations and back. -/

theorem word_ofWord : ∀ w : BitVec 6, (Cond.ofWord w).word = w := by decide

theorem statusBits_getLsbD : ∀ w : BitVec 2, statusBits (w.getLsbD 1) (w.getLsbD 0) = (.status, w.toNat) := by decide

theorem encode_of_decodeStatus {w : BitVec 2} {i : Instr} (h : decodeStatus w = .ok i) :
    i.wellFormed = true ∧ encode i = (.status, w.toNat) := by
  rw [← statusBits_getLsbD]
  rw [decodeStatus] at h
  split at h
  next h0 => cases h; exact ⟨rfl, by rw [h0, encode]⟩
  next h1 h0 => cases h; exact ⟨rfl, by rw [h1, h0, encode]⟩
  next => cases h

theorem encode_of_decodeCond {c : Cond} {i : Instr} (h : decodeCond c.word = .ok i) :
    i.wellFormed = true ∧ encode i = (.cond, c.word.toNat) := by
  rw [decodeCond, ofWord_word] at h
  split at h <;> cases h <;> exact ⟨rfl, rfl⟩

theorem encode_of_decodePhase {w : BitVec 4} {i : Instr} (h : decodePhase w = .ok i) :
    i.wellFormed = true ∧ encode i = (.phase, w.toNat) := by
  rw [decodePhase] at h
  split at h <;> cases h <;> exact ⟨rfl, by simp [encode, *]⟩

theorem lt_of_decodeWord {f : Format} {w : Nat} {i : Instr} (h : decodeWord f w = .ok i) : w < 2 ^ f.width := by
  by_contra hw
  rw [decodeWord.eq_def, if_neg hw] at h
  cases h

/-- A word that is read as an operation is that operation's own. -/
theorem encode_of_decodeWord {f : Format} {w : Nat} {i : Instr} (h : decodeWord f w = .ok i) :
    i.wellFormed = true ∧ encode i = (f, w) := by
  have hw := lt_of_decodeWord h
  cases f with
  | status =>
    obtain ⟨v, rfl⟩ : ∃ v : BitVec 2, v.toNat = w := ⟨.ofNatLT w hw, rfl⟩
    exact encode_of_decodeStatus (decodeWord_status v ▸ h)
  | cond =>
    obtain ⟨v, rfl⟩ : ∃ v : BitVec 6, v.toNat = w := ⟨.ofNatLT w hw, rfl⟩
    rw [decodeWord_cond, ← word_ofWord v] at h
    exact word_ofWord v ▸ encode_of_decodeCond h
  | phase =>
    obtain ⟨v, rfl⟩ : ∃ v : BitVec 4, v.toNat = w := ⟨.ofNatLT w hw, rfl⟩
    exact encode_of_decodePhase (decodeWord_phase v ▸ h)

/-- The word of a well-formed operation is read as that operation, whatever its operands. -/
theorem decodeWord_encode {i : Instr} (h : i.wellFormed = true) : decodeWord (encode i).1 (encode i).2 = .ok i := by
  cases i with
  | nopTermFlt fin =>
    obtain rfl : fin = false := by simpa [Instr.wellFormed] using h
    rfl
  | nopTermFin b | fault b | emit b => cases b <;> rfl
  | waitIn a b | waitOut a b => cases a <;> cases b <;> rfl
  | idle | finish | emitEod | emitFin | padf | pre | cpsym | win0 | wink | padt | consume | tagout | produce | eodchk => rfl

/-- Settles O1: soundness of the decoder, format by format, and its completeness, operation by operation. -/
theorem decodeInvertsEncode : Obligations.DecodeInvertsEncode := by
  intro f w i
  refine ⟨encode_of_decodeWord, fun ⟨hwf, henc⟩ => ?_⟩
  have h := decodeWord_encode hwf
  rwa [henc] at h

/-- Settles O4: each word is by evaluation the operation's own. -/
theorem sampleWordsDecode : Obligations.SampleWordsDecode :=
  have read := fun f w i => (decodeInvertsEncode f w i).2
  ⟨read _ _ _ ⟨rfl, rfl⟩, read _ _ _ ⟨rfl, rfl⟩, read _ _ _ ⟨rfl, rfl⟩, read _ _ _ ⟨rfl, rfl⟩, read _ _ _ ⟨rfl, rfl⟩⟩

/-! The condition words that R66 can produce. -/

theorem cond_produced (s : State) : s.cond.Produced := by
  rw [State.cond]
  split
  · simp [Cond.Produced]
  · simp +contextual [Cond.Produced]

/-- The table of R69 has one row for a word that R66 can produce, and none for any other. -/
theorem condRows_filter_length (c : Cond) :
    (condRows.filter fun row => c.word.toNat &&& row.1 == row.2).length = if c.Produced then 1 else 0 := by
  obtain ⟨m, z, e, i, o, r⟩ := c
  revert m z e i o r
  decide

theorem decodeCond_of_produced {c : Cond} (h : c.Produced) : ∃ i, decodeCond c.word = .ok i := by
  rw [decodeCond, ofWord_word]
  split <;> simp_all [Cond.Produced]

theorem decodeCond_of_not_produced {c : Cond} (h : ¬ c.Produced) : decodeCond c.word = .error .condNotProduced := by
  rw [decodeCond, ofWord_word]
  split <;> simp_all [Cond.Produced]

/-- Settles O2: a state's word is one that R66 can produce. -/
theorem everyCondWordMatchesOneRow : Obligations.EveryCondWordMatchesOneRow := by
  intro s
  refine ⟨by rw [condRows_filter_length, if_pos (cond_produced s)], ?_⟩
  rw [decodeWord_cond]
  exact decodeCond_of_produced (cond_produced s)

end Sys2Proof.Machine
end

section
/-! The records that cross the interface (spec/30_encoding.md R72 to R75, spec/20_memory.md R44): where each field stands, and
that unpacking undoes packing. -/

namespace Sys2Proof.Machine

/-! `TAGREC` and `CFGWORD`: fields of `W` bits, one above the other. -/

/-- A word with the field `a` below `2 ^ W` lowest gives that field and what stands above it. -/
theorem fields_of_word {W a : Nat} (h : a < 2 ^ W) (b : Nat) :
    (a + 2 ^ W * b) % 2 ^ W = a ∧ (a + 2 ^ W * b) / 2 ^ W = b := by
  constructor
  · rw [Nat.add_mul_mod_self_left, Nat.mod_eq_of_lt h]
  · rw [Nat.add_mul_div_left _ _ (Nat.two_pow_pos W), Nat.div_eq_of_lt h, Nat.zero_add]

/-- A field of `W` bits below `n` others makes a word of `W + n`. -/
theorem word_lt {W n a b : Nat} (ha : a < 2 ^ W) (hb : b < 2 ^ n) : a + 2 ^ W * b < 2 ^ (W + n) := by
  calc a + 2 ^ W * b < 2 ^ W * (b + 1) := by rw [Nat.mul_succ]; omega
    _ ≤ 2 ^ W * 2 ^ n := Nat.mul_le_mul_left _ hb
    _ = 2 ^ (W + n) := (Nat.pow_add ..).symm

/-- The three fields of a `TAGREC` word, whatever its kind code (R72). -/
theorem fields_of_tagWord {W i v : Nat} (hi : i < 2 ^ W) (hv : v < 2 ^ W) (c : Nat) :
    (i + 2 ^ W * (v + 2 ^ W * c)) % 2 ^ W = i ∧ (i + 2 ^ W * (v + 2 ^ W * c)) / 2 ^ W % 2 ^ W = v ∧
      (i + 2 ^ W * (v + 2 ^ W * c)) / 2 ^ W / 2 ^ W = c := by
  obtain ⟨hindex, hrest⟩ := fields_of_word hi (v + 2 ^ W * c)
  rw [hrest]
  exact ⟨hindex, fields_of_word hv c⟩

theorem tagWord_lt {W i v c : Nat} (hi : i < 2 ^ W) (hv : v < 2 ^ W) (hc : c < 2 ^ 8) :
    i + 2 ^ W * (v + 2 ^ W * c) < 2 ^ (2 * W + 8) := by
  rw [show 2 * W + 8 = W + (W + 8) by omega]
  exact word_lt hi (word_lt hv hc)

/-- Unpacking reads the index, the value and the kind of the code (R72, R73). -/
theorem unpackTag_tagWord {W i v c : Nat} (hi : i < 2 ^ W) (hv : v < 2 ^ W) (hc : c < 2 ^ 8) :
    unpackTag W (i + 2 ^ W * (v + 2 ^ W * c)) = some { index := i, value := v, kind := Kind.ofCode c } := by
  obtain ⟨hindex, hvalue, hcode⟩ := fields_of_tagWord hi hv c
  rw [unpackTag, if_pos (tagWord_lt hi hv hc), hindex, hvalue, hcode]

theorem code_lt (k : Kind) : k.code < 2 ^ 8 := by cases k <;> decide

theorem ofCode_code (k : Kind) : Kind.ofCode k.code = k := by cases k <;> rfl

theorem ofCode_other {c : Nat} (h1 : c ≠ 1) (h2 : c ≠ 2) : Kind.ofCode c = .other := by
  rw [Kind.ofCode, if_neg h1, if_neg h2]

/-- Settles O5: the packed word is the `TAGREC` word of the record's kind code. -/
theorem tagRecordFields : Obligations.TagRecordFields := by
  intro W t hi hv
  obtain ⟨hindex, hvalue, hcode⟩ := fields_of_tagWord hi hv t.kind.code
  rw [Nat.div_div_eq_div_mul, ← Nat.pow_add, ← Nat.two_mul] at hcode
  refine ⟨tagWord_lt hi hv (code_lt _), hindex, hvalue, ?_, ?_, ?_, ?_, ?_⟩
  · intro hk; exact hcode.trans (by rw [hk, Kind.code])
  · intro hk; exact hcode.trans (by rw [hk, Kind.code])
  · intro hk; exact hcode.trans (by rw [hk, Kind.code])
  · rw [packTag, unpackTag_tagWord hi hv (code_lt _), ofCode_code]
  · intro c hc h1 h2
    rw [unpackTag_tagWord hi hv hc, ofCode_other h1 h2]

theorem unpackCfg_packCfg {W p pt : Nat} (hp : p < 2 ^ W) (hpt : pt < 2 ^ W) : unpackCfg W (packCfg W p pt) = some (p, pt) := by
  obtain ⟨hlow, hhigh⟩ := fields_of_word hp pt
  rw [packCfg, unpackCfg, if_pos (Nat.two_mul W ▸ word_lt hp hpt), hlow, hhigh]

/-! `SAMPLEWORD` and its byte image. -/

theorem packSample_fields (s : Complex32) :
    (packSample s).toNat % 2 ^ 32 = s.re.toNat ∧ (packSample s).toNat / 2 ^ 32 = s.im.toNat := by
  have hword : (packSample s).toNat = s.re.toNat + 2 ^ 32 * s.im.toNat := by
    rw [packSample, BitVec.toNat_append, ← Nat.shiftLeft_add_eq_or_of_lt s.re.isLt, Nat.shiftLeft_eq]
    omega
  rw [hword]
  exact fields_of_word s.re.isLt _

theorem unpackSample_packSample (s : Complex32) : unpackSample (packSample s) = s := by
  rw [packSample, unpackSample, BitVec.extractLsb'_append_eq_right, BitVec.extractLsb'_append_eq_left]

theorem sampleBytes_getElem? (s : Complex32) {j : Nat} (h : j < 8) :
    (sampleBytes s)[j]? = some ((packSample s).extractLsb' (8 * j) 8) := by
  simp [sampleBytes, h]

/-- A byte of the image that holds bits of the real part. -/
theorem packSample_byte_re (s : Complex32) {j : Nat} (h : j < 4) :
    (packSample s).extractLsb' (8 * j) 8 = s.re.extractLsb' (8 * j) 8 :=
  BitVec.extractLsb'_append_eq_of_add_le (by omega)

/-- A byte of the image that holds bits of the imaginary part. -/
theorem packSample_byte_im (s : Complex32) (j : Nat) :
    (packSample s).extractLsb' (8 * (4 + j)) 8 = s.im.extractLsb' (8 * j) 8 := by
  rw [packSample, BitVec.extractLsb'_append_eq_of_le (by omega), show 8 * (4 + j) - 32 = 8 * j by omega]

/-- The eight bytes of a word, put together, are the word. -/
theorem sampleOfBytes_bytes (w : BitVec 64) :
    sampleOfBytes ((List.range 8).map fun j => w.extractLsb' (8 * j) 8) = some (unpackSample w) := by
  change some (unpackSample (w.extractLsb' 56 8 ++ w.extractLsb' 48 8 ++ w.extractLsb' 40 8 ++ w.extractLsb' 32 8
    ++ w.extractLsb' 24 8 ++ w.extractLsb' 16 8 ++ w.extractLsb' 8 8 ++ w.extractLsb' 0 8)) = _
  simp only [BitVec.extractLsb'_append_extractLsb'_eq_extractLsb', BitVec.extractLsb'_eq_self]

/-- Settles O6: the fields of each word, and the bytes of the sample word. -/
theorem sampleAndConfigWordFields : Obligations.SampleAndConfigWordFields := by
  refine ⟨fun s => ?_, fun W p pt hp hpt => ?_⟩
  · obtain ⟨hre, him⟩ := packSample_fields s
    refine ⟨hre, him, unpackSample_packSample s, ?_, by simp [sampleBytes], fun j hj => ⟨?_, ?_⟩⟩
    · rw [sampleBytes, sampleOfBytes_bytes, unpackSample_packSample]
    · rw [sampleBytes_getElem? s (by omega), packSample_byte_re s hj]
    · rw [sampleBytes_getElem? s (by omega), packSample_byte_im]
  · obtain ⟨hlow, hhigh⟩ := fields_of_word hp pt
    exact ⟨hlow, hhigh, unpackCfg_packCfg hp hpt⟩

end Sys2Proof.Machine
end

section
/-! Marker selection (spec/30_encoding.md R67, R68, R83): the selected marker is the visible one of the smallest index, the
earliest among equals, and records of other kinds play no part in it. -/

namespace Sys2Proof.Machine

theorem earliest_eq_none_iff {ts : List TagRec} : earliest ts = none ↔ ts = [] := by
  cases ts with
  | nil => simp [earliest]
  | cons t ts =>
    rw [earliest]
    split
    · simp
    · split <;> simp

/-- The earliest record stands behind larger indices and before indices at least as large. -/
theorem earliest_split {ts : List TagRec} {t : TagRec} (h : earliest ts = some t) :
    ∃ before after, ts = before ++ t :: after ∧ (∀ u ∈ before, t.index < u.index) ∧ ∀ u ∈ after, t.index ≤ u.index := by
  induction ts generalizing t with
  | nil => simp [earliest] at h
  | cons u us ih =>
    rw [earliest] at h
    split at h
    next hnone =>
      obtain rfl := earliest_eq_none_iff.1 hnone
      cases h
      exact ⟨[], [], rfl, by simp, by simp⟩
    next v hv =>
      obtain ⟨before, after, rfl, hbefore, hafter⟩ := ih hv
      split at h <;> cases h
      next hle =>
        refine ⟨[], _, rfl, by simp, fun w hw => ?_⟩
        simp only [List.mem_append, List.mem_cons] at hw
        obtain hw | rfl | hw := hw
        · exact hle.trans (hbefore w hw).le
        · exact hle
        · exact hle.trans (hafter w hw)
      next hlt =>
        refine ⟨u :: before, after, rfl, fun w hw => ?_, hafter⟩
        obtain rfl | hw := List.mem_cons.1 hw
        · exact Nat.lt_of_not_le hlt
        · exact hbefore w hw

/-- A record before indices at least as large and behind larger ones is the earliest. -/
theorem earliest_append {before after : List TagRec} {t : TagRec} (hbefore : ∀ u ∈ before, t.index < u.index)
    (hafter : ∀ u ∈ after, t.index ≤ u.index) : earliest (before ++ t :: after) = some t := by
  induction before with
  | nil =>
    rw [List.nil_append, earliest]
    split
    · rfl
    next u hu => rw [if_pos (hafter u (earliest_mem hu))]
  | cons u us ih =>
    obtain ⟨hu, hus⟩ := List.forall_mem_cons.1 hbefore
    rw [List.cons_append, earliest, ih hus]
    exact if_neg (Nat.not_le_of_lt hu)

theorem isVisibleMarker_iff {s : State} {t : TagRec} :
    s.isVisibleMarker t = true ↔ t.kind = .burstStart ∧ t.index < s.inLen := by
  simp [State.isVisibleMarker]

/-- The split of the list of visible markers, in the list of all records. -/
theorem sel_split {s : State} {t : TagRec} (h : s.sel = some t) :
    ∃ before after, s.inTags = before ++ t :: after ∧ (∀ u ∈ before, s.isVisibleMarker u = true → t.index < u.index) ∧
      ∀ u ∈ after, s.isVisibleMarker u = true → t.index ≤ u.index := by
  obtain ⟨markersBefore, markersAfter, hsplit, hbefore, hafter⟩ := earliest_split h
  obtain ⟨before, rest, htags, rfl, hrest⟩ := List.filter_eq_append_iff.1 hsplit
  obtain ⟨between, after, rfl, hbetween, -, rfl⟩ := List.filter_eq_cons_iff.1 hrest
  refine ⟨before ++ between, after, by rw [htags, List.append_assoc], fun u hu hvis => ?_,
    fun u hu hvis => hafter u (List.mem_filter.2 ⟨hu, hvis⟩)⟩
  obtain hu | hu := List.mem_append.1 hu
  · exact hbefore u (List.mem_filter.2 ⟨hu, hvis⟩)
  · exact absurd hvis (hbetween u hu)

theorem sel_of_split {s : State} {t : TagRec} {before after : List TagRec} (htags : s.inTags = before ++ t :: after)
    (ht : s.isVisibleMarker t = true) (hbefore : ∀ u ∈ before, s.isVisibleMarker u = true → t.index < u.index)
    (hafter : ∀ u ∈ after, s.isVisibleMarker u = true → t.index ≤ u.index) : s.sel = some t := by
  rw [State.sel, htags, List.filter_append, List.filter_cons_of_pos ht]
  refine earliest_append (fun u hu => ?_) fun u hu => ?_
  · obtain ⟨hmem, hvis⟩ := List.mem_filter.1 hu
    exact hbefore u hmem hvis
  · obtain ⟨hmem, hvis⟩ := List.mem_filter.1 hu
    exact hafter u hmem hvis

theorem sel_eq_none_iff {s : State} : s.sel = none ↔ ∀ u ∈ s.inTags, s.isVisibleMarker u ≠ true := by
  rw [State.sel, earliest_eq_none_iff, List.filter_eq_nil_iff]

/-- Settles O7: `sel_split` and `sel_of_split`, with the two conditions of a visible marker written out. -/
theorem markerSelection : Obligations.MarkerSelection := by
  intro s
  refine ⟨fun t => ⟨fun h => ?_, fun ⟨before, after, htags, hkind, hidx, hbefore, hafter⟩ => ?_⟩, ?_⟩
  · obtain ⟨-, hkind, hidx⟩ := sel_mem h
    obtain ⟨before, after, htags, hbefore, hafter⟩ := sel_split h
    exact ⟨before, after, htags, hkind, hidx, fun u hu hk hi => hbefore u hu (isVisibleMarker_iff.2 ⟨hk, hi⟩),
      fun u hu hk hi => hafter u hu (isVisibleMarker_iff.2 ⟨hk, hi⟩)⟩
  · exact sel_of_split htags (isVisibleMarker_iff.2 ⟨hkind, hidx⟩)
      (fun u hu hvis => (isVisibleMarker_iff.1 hvis).elim (hbefore u hu))
      (fun u hu hvis => (isVisibleMarker_iff.1 hvis).elim (hafter u hu))
  · simp only [sel_eq_none_iff, isVisibleMarker_iff, ne_eq, not_and]

/-! Records of other kinds. -/

/-- The state without the records of `IN_TAGS` that are no `BURST_START`. -/
def State.onlyMarkers (s : State) : State := { s with inTags := s.inTags.filter fun t => t.kind == .burstStart }

theorem onlyMarkers_sel (s : State) : s.onlyMarkers.sel = s.sel := by
  refine congrArg earliest ((List.filter_filter ..).trans (List.filter_congr fun t _ => ?_))
  change (s.isVisibleMarker t && t.kind == .burstStart) = s.isVisibleMarker t
  rw [Bool.and_eq_left_iff_imp]
  exact fun hvis => beq_iff_eq.2 (isVisibleMarker_iff.1 hvis).1

/-- The condition word looks at the records through the selection only. -/
theorem onlyMarkers_cond (s : State) : s.onlyMarkers.cond = s.cond := by
  rw [State.cond, onlyMarkers_sel, State.cond]
  rfl

theorem onlyMarkers_operation (s : State) : s.onlyMarkers.operation = s.operation := by
  rw [State.operation, onlyMarkers_sel, onlyMarkers_cond, State.operation]
  rfl

/-- Settles O8: the selection is the same, and what follows from it. -/
theorem otherKindsAreIgnored : Obligations.OtherKindsAreIgnored :=
  fun s => ⟨onlyMarkers_cond s, onlyMarkers_operation s⟩

end Sys2Proof.Machine
end

section
/-! The operation selected (spec/40_gating_fsm.md R89): reserved words and inadmissible counts are refused, and a placed word
is selected (log 12). -/

namespace Sys2Proof.Machine

theorem operationOf_refused {f : Format} {w : Nat} {r : Reject} (h : decodeWord f w = .error r) :
    operationOf f w = .refused (.reservedWord r) := by
  rw [operationOf, h]

/-! What is selected, by where its word comes from. -/

theorem operation_of_job {s : State} {j : Job} (h : s.job = some j) : s.operation = operationOf .phase j.phase.toNat := by
  rw [State.operation, h]

theorem operation_of_terminal {s : State} (hj : s.job = none) (h : (s.fin || s.flt) = true) :
    s.operation = operationOf .status s.status.toNat := by
  rw [State.operation, hj]
  exact if_pos h

theorem operation_of_unmarked {s : State} (hs : Running s) (h : s.sel = none) :
    s.operation = operationOf .cond s.cond.word.toNat := by
  simp [State.operation, hs.job, hs.fin, hs.flt, h]

theorem operation_of_marked {s : State} {t : TagRec} (hs : Running s) (h : s.sel = some t) :
    s.operation = andThen (admitCount s t.value) fun _ => operationOf .cond s.cond.word.toNat := by
  simp [State.operation, hs.job, hs.fin, hs.flt, h]

/-! Reserved words. -/

theorem decodePhase_reserved {p : BitVec 4} (h : 10 ≤ p.toNat) : decodePhase p = .error .phaseReserved := by
  rw [decodePhase]
  split
  case h_11 => rfl
  all_goals omega

/-- Settles O3: the reserved phases, the words that no row of R69 matches, and the step that selects by such a phase. -/
theorem reservedWordsAreRefused : Obligations.ReservedWordsAreRefused := by
  refine ⟨fun w hlow hw => ?_, fun w hw hrows => ?_, fun s j hj hp => ?_⟩
  · obtain ⟨p, rfl⟩ : ∃ p : BitVec 4, p.toNat = w := ⟨.ofNatLT w hw, rfl⟩
    rw [decodeWord_phase, decodePhase_reserved hlow]
  · obtain ⟨v, rfl⟩ : ∃ v : BitVec 6, v.toNat = w := ⟨.ofNatLT w hw, rfl⟩
    have hlen := condRows_filter_length (Cond.ofWord v)
    rw [word_ofWord, hrows] at hlen
    rw [decodeWord_cond, ← word_ofWord v]
    exact decodeCond_of_not_produced fun hprod => by rw [if_pos hprod] at hlen; cases hlen
  · rw [step_emission hj, invoke, operation_of_job hj,
      operationOf_refused ((decodeWord_phase _).trans (decodePhase_reserved hp)), andThen_refused]

/-! Inadmissible counts. -/

theorem admitCount_zero (s : State) : admitCount s 0 = .refused .countZero := rfl

theorem admitCount_tooLarge {s : State} {n : Nat} (h0 : n ≠ 0) (h : s.fits n = false) :
    admitCount s n = .refused .countTooLarge := by
  rw [admitCount, if_neg h0, if_neg (by simp [h])]

theorem invoke_refused_of_admitCount {s : State} {t : TagRec} {e : Refusal} (hs : Running s) (ht : s.sel = some t)
    (h : admitCount s t.value = .refused e) : invoke s = .refused e := by
  rw [invoke, operation_of_marked hs ht, h, andThen_refused, andThen_refused]

/-- Settles O19: the count is admitted before the condition word is looked at. -/
theorem inadmissibleCountIsRefused : Obligations.InadmissibleCountIsRefused := fun s _ hs ht =>
  ⟨fun h0 => invoke_refused_of_admitCount hs ht (h0 ▸ admitCount_zero s),
    fun h0 hfits => invoke_refused_of_admitCount hs ht (admitCount_tooLarge h0 hfits)⟩

/-! A word placed where the step reads it (log 12). -/

theorem placeWord_status (s : State) (v : BitVec 2) : s.placeWord 2 v.toNat = { s.atRun with status := v } := by
  change { s.atRun with status := BitVec.ofNat 2 v.toNat } = _
  rw [BitVec.ofNat_toNat, BitVec.setWidth_eq]

theorem placeWord_cond (s : State) (c : Cond) : s.placeWord 6 c.word.toNat = s.placeCond c := by
  change s.placeCond (Cond.ofWord (BitVec.ofNat 6 c.word.toNat)) = _
  rw [BitVec.ofNat_toNat, BitVec.setWidth_eq, ofWord_word]

theorem placeWord_phase (s : State) (p : BitVec 4) : s.placeWord 4 p.toNat = s.placePhase p := by
  change s.placePhase (BitVec.ofNat 4 p.toNat) = _
  rw [BitVec.ofNat_toNat, BitVec.setWidth_eq]

theorem terminal_of_decodeStatus {s : State} {i : Instr} (h : decodeStatus s.status = .ok i) : (s.fin || s.flt) = true := by
  rw [State.fin, State.flt]
  rw [decodeStatus] at h
  split at h <;> simp_all

/-! The state in which a condition word is placed. -/

section
variable (s : State) (c : Cond)

theorem placeCond_status : (s.placeCond c).status = 0 := by
  rw [State.placeCond]
  split <;> rfl

theorem placeCond_job : (s.placeCond c).job = none := by
  rw [State.placeCond]
  split <;> rfl

theorem placeCond_running : Running (s.placeCond c) where
  fin := by rw [State.fin, placeCond_status]; rfl
  flt := by rw [State.flt, placeCond_status]; rfl
  job := placeCond_job s c

theorem placeCond_inEod : (s.placeCond c).inEod = c.e := by
  rw [State.placeCond]
  split <;> rfl

theorem placeCond_fits (n : Nat) : (s.placeCond c).fits n = s.fits n := by
  rw [State.placeCond]
  split <;> exact fits_congr rfl rfl rfl n

theorem placeCond_reqOut (n : Nat) : (s.placeCond c).reqOut n = s.reqOut n := by
  rw [State.placeCond]
  split <;> rfl

/-- The marker that stands in the window where `M = 1` is placed. -/
def placedMarker : TagRec := { index := if c.z then 0 else 1, kind := .burstStart, value := 1 }

variable {c}

theorem placeCond_sel_unmarked (h : c.m = false) : (s.placeCond c).sel = none := by
  simp [State.placeCond, h, State.sel, earliest]

theorem placeCond_inLen (h : c.m = true) : (s.placeCond c).inLen = if c.i then (if c.r then 64 else 128) else 2 := by
  simp [State.placeCond, h, State.inLen]

theorem placeCond_inTags (h : c.m = true) : (s.placeCond c).inTags = [placedMarker c] := by
  simp [State.placeCond, h, placedMarker]

theorem placeCond_outCap (h : c.m = true) : (s.placeCond c).outCap = if c.o then s.reqOut 1 else 0 := by
  simp [State.placeCond, h]

theorem placeCond_sel_marked (h : c.m = true) : (s.placeCond c).sel = some (placedMarker c) := by
  refine sel_of_split (before := []) (placeCond_inTags s h) (isVisibleMarker_iff.2 ⟨rfl, ?_⟩) (by simp) (by simp)
  rw [placeCond_inLen s h, placedMarker]
  split_ifs <;> simp

theorem placeCond_inputSuffices (h : c.m = true) : (s.placeCond c).inputSuffices 1 = c.i := by
  rw [State.inputSuffices, placeCond_inLen s h, reqIn]
  cases c.i <;> cases c.r <;> rfl

theorem placeCond_outputSuffices (h : c.m = true) : (s.placeCond c).outputSuffices 1 = c.o := by
  rw [State.outputSuffices, placeCond_outCap s h, placeCond_reqOut]
  cases c.o <;> simp [State.reqOut]

theorem placeCond_remainderShort (h : c.m = true) (hi : c.i = true) : (s.placeCond c).remainderShort 1 = c.r := by
  rw [State.remainderShort, placeCond_inLen s h, if_pos hi]
  cases c.r <;> rfl

theorem placedMarker_index : ((placedMarker c).index == 0) = c.z := by
  cases h : c.z <;> simp [placedMarker, h]

theorem placeCond_cond_unmarked (h : c.m = false) :
    (s.placeCond c).cond = { m := false, z := false, e := c.e, i := false, o := false, r := false } := by
  rw [State.cond, placeCond_sel_unmarked s h, placeCond_inEod]

/-- With `M = 1` the bits are those of the gate for one symbol, as far as they are valid. -/
theorem placeCond_cond_marked (h : c.m = true) :
    (s.placeCond c).cond =
      { m := true, z := c.z, e := c.e, i := c.z && c.i, o := c.z && c.o,
        r := (c.z && c.i) && (s.placeCond c).remainderShort 1 } := by
  rw [State.cond, placeCond_sel_marked s h, placeCond_inEod]
  simp only [placedMarker_index]
  rw [← placeCond_inputSuffices s h, ← placeCond_outputSuffices s h]
  rfl

/-- The condition word of the state is the one that was placed. -/
theorem placeCond_cond (h : c.Produced) : (s.placeCond c).cond = c := by
  obtain ⟨hz, hio, hr⟩ := h
  cases hm : c.m with
  | false =>
    obtain ⟨hi, ho⟩ := hio (hz hm)
    have hr := hr hi
    rw [placeCond_cond_unmarked s hm]
    cases c
    simp_all only
  | true =>
    have hi : (c.z && c.i) = c.i := by cases hcz : c.z <;> simp [hio, hcz]
    have ho : (c.z && c.o) = c.o := by cases hcz : c.z <;> simp [hio, hcz]
    have hrem : (c.i && (s.placeCond c).remainderShort 1) = c.r := by
      cases hci : c.i
      · exact (hr hci).symm
      · exact placeCond_remainderShort s hm hci
    rw [placeCond_cond_marked s hm, hi, ho, hrem, ← hm]

theorem placeCond_operation (hc : c.Produced) (hfits : s.fits 1 = true) :
    (s.placeCond c).operation = operationOf .cond c.word.toNat := by
  cases hm : c.m with
  | false => rw [operation_of_unmarked (placeCond_running s c) (placeCond_sel_unmarked s hm), placeCond_cond s hc]
  | true =>
    rw [operation_of_marked (placeCond_running s c) (placeCond_sel_marked s hm), placedMarker,
      admitCount_next one_ne_zero ((placeCond_fits s c 1).trans hfits), andThen_next, placeCond_cond s hc]

end

theorem produced_of_decodeCond {c : Cond} {i : Instr} (h : decodeCond c.word = .ok i) : c.Produced := by
  by_contra hc
  rw [decodeCond_of_not_produced hc] at h
  cases h

/-- Settles O12, format by format: the placed state takes its word from the place of that format. -/
theorem placedWordIsSelected : Obligations.PlacedWordIsSelected := by
  intro s f w i h hfits
  have hw := lt_of_decodeWord h
  cases f with
  | status =>
    obtain ⟨v, rfl⟩ : ∃ v : BitVec 2, v.toNat = w := ⟨.ofNatLT w hw, rfl⟩
    change (s.placeWord 2 v.toNat).operation = _
    rw [placeWord_status, operation_of_terminal rfl (terminal_of_decodeStatus (decodeWord_status v ▸ h))]
    exact operationOf_ok h
  | cond =>
    obtain ⟨v, rfl⟩ : ∃ v : BitVec 6, v.toNat = w := ⟨.ofNatLT w hw, rfl⟩
    obtain ⟨c, rfl⟩ : ∃ c : Cond, c.word = v := ⟨_, word_ofWord v⟩
    change (s.placeWord 6 c.word.toNat).operation = _
    rw [placeWord_cond, placeCond_operation s (produced_of_decodeCond (decodeWord_cond c.word ▸ h)) hfits]
    exact operationOf_ok h
  | phase =>
    obtain ⟨p, rfl⟩ : ∃ p : BitVec 4, p.toNat = w := ⟨.ofNatLT w hw, rfl⟩
    change (s.placeWord 4 p.toNat).operation = _
    rw [placeWord_phase, operation_of_job rfl]
    exact operationOf_ok h

end Sys2Proof.Machine
end

section
/-! What an invocation between emissions selects (spec/60_exceptions.md R148), from the bits of `STATUS` and `COND`, and what
the operations that move no sample do (spec/40_gating_fsm.md R91 to R95, R99). -/

namespace Sys2Proof.Machine

/-- The word of a well-formed operation selects that operation. -/
theorem operationOf_encode {i : Instr} (h : i.wellFormed = true) : operationOf (encode i).1 (encode i).2 = .next i :=
  operationOf_ok (decodeWord_encode h)

/-! The step of an invocation. -/

theorem invoke_of_operation {s : State} {i : Instr} (h : s.operation = .next i) : invoke s = exec i s := by
  rw [invoke, h, andThen_next]

@[simp] theorem withAgenda_operation (s : State) (steps : List HostStep) : (s.withAgenda steps).operation = s.operation := rfl

/-- Settles O11: the framer's turn, by the scratch or by the agenda, and `HOST_INVOKE`. -/
theorem stepRunsSelectedOperation : Obligations.StepRunsSelectedOperation := by
  refine ⟨fun s i hturn hop => ?_, fun s rest i hj ha hop => ?_⟩
  · rw [← invoke_of_operation hop]
    cases hj : s.job with
    | some j => exact step_emission hj
    | none => exact step_invoke hj (hturn.resolve_left (absurd hj))
  · rw [step_host hj ha]
    exact invoke_of_operation (s := s.withAgenda rest) hop

/-! A terminal state: the bits of `STATUS` are the word. -/

theorem operation_eq_of_terminal {s : State} (hj : s.job = none) (h : (s.fin || s.flt) = true) :
    s.operation = operationOf (statusBits s.flt s.fin).1 (statusBits s.flt s.fin).2 := by
  rw [operation_of_terminal hj h, State.flt, State.fin, statusBits_getLsbD]

theorem operation_of_fin {s : State} (hj : s.job = none) (h : s.fin = true) : s.operation = .next (.nopTermFin s.flt) := by
  rw [operation_eq_of_terminal hj (by simp [h]), h]
  exact operationOf_encode (i := .nopTermFin s.flt) rfl

theorem operation_of_flt {s : State} (hj : s.job = none) (hfin : s.fin = false) (h : s.flt = true) :
    s.operation = .next (.nopTermFlt false) := by
  rw [operation_eq_of_terminal hj (by simp [h]), hfin, h]
  exact operationOf_encode (i := .nopTermFlt false) rfl

/-! `RUN` without a marker. -/

theorem cond_of_unmarked {s : State} (h : s.sel = none) :
    s.cond = { m := false, z := false, e := s.inEod, i := false, o := false, r := false } := by
  rw [State.cond, h]

theorem operation_of_no_marker {s : State} (hs : Running s) (h : s.sel = none) :
    s.operation = .next (if s.inEod then .finish else .idle) := by
  rw [operation_of_unmarked hs h, cond_of_unmarked h]
  cases s.inEod with
  | false => exact operationOf_encode (i := .idle) rfl
  | true => exact operationOf_encode (i := .finish) rfl

/-! `RUN` with an admitted marker: the bits of R66 in the terms of R148. -/

section
variable {s : State} {t : TagRec} (hs : Running s) (ht : Marked s t)

theorem cond_of_misplaced (h : s.sel = some t) (hi : t.index ≠ 0) :
    s.cond = { m := true, z := false, e := s.inEod, i := false, o := false, r := false } := by
  simp [State.cond, h, hi]

theorem cond_of_front (h : s.sel = some t) (hi : t.index = 0) :
    s.cond =
      { m := true, z := true, e := s.inEod, i := s.inputSuffices t.value, o := s.outputSuffices t.value,
        r := s.inputSuffices t.value && s.remainderShort t.value } := by
  simp [State.cond, h, hi]

/-- What remains after a burst is less than its own length where the window holds less than two of them (R80). -/
theorem remainderShort_eq (h : reqIn t.value ≤ s.inLen) : s.remainderShort t.value = decide (s.inLen < 128 * t.value) := by
  rw [reqIn] at h
  rw [State.remainderShort, decide_eq_decide]
  omega

include hs ht

theorem operation_of_admitted : s.operation = operationOf .cond s.cond.word.toNat := by
  rw [operation_of_marked hs ht.sel, admitCount_next ht.count ht.fits, andThen_next]

theorem operation_of_misplaced (hi : t.index ≠ 0) : s.operation = .next (.fault s.inEod) := by
  rw [operation_of_admitted hs ht, cond_of_misplaced ht.sel hi]
  exact operationOf_encode (i := .fault s.inEod) rfl

theorem operation_of_short_input (hi : t.index = 0) (hin : s.inLen < reqIn t.value) :
    s.operation = .next (.waitIn s.inEod (s.outputSuffices t.value)) := by
  have short : s.inputSuffices t.value = false := decide_eq_false hin.not_ge
  rw [operation_of_admitted hs ht, cond_of_front ht.sel hi, short]
  exact operationOf_encode (i := .waitIn _ _) rfl

theorem operation_of_short_output (hi : t.index = 0) (hin : reqIn t.value ≤ s.inLen) (hout : s.outCap < s.reqOut t.value) :
    s.operation = .next (.waitOut s.inEod (decide (s.inLen < 128 * t.value))) := by
  have enough : s.inputSuffices t.value = true := decide_eq_true hin
  have short : s.outputSuffices t.value = false := decide_eq_false hout.not_ge
  rw [operation_of_admitted hs ht, cond_of_front ht.sel hi, enough, short, remainderShort_eq hin]
  exact operationOf_encode (i := .waitOut _ _) rfl

theorem operation_of_gate (hi : t.index = 0) (hin : reqIn t.value ≤ s.inLen) (hout : s.reqOut t.value ≤ s.outCap) :
    s.operation = .next (if s.inEod then (if s.inLen < 128 * t.value then .emitFin else .emitEod)
      else .emit (decide (s.inLen < 128 * t.value))) := by
  have enough : s.inputSuffices t.value = true := decide_eq_true hin
  have room : s.outputSuffices t.value = true := decide_eq_true hout
  rw [operation_of_admitted hs ht, cond_of_front ht.sel hi, enough, room, remainderShort_eq hin]
  cases s.inEod with
  | false => exact operationOf_encode (i := .emit _) rfl
  | true =>
    by_cases last : s.inLen < 128 * t.value
    · rw [decide_eq_true last, if_pos last]
      exact operationOf_encode (i := .emitFin) rfl
    · rw [decide_eq_false last, if_neg last]
      exact operationOf_encode (i := .emitEod) rfl

end

theorem operation_of_inadmissible {s : State} {t : TagRec} {e : Refusal} (hs : Running s) (ht : s.sel = some t)
    (h : admitCount s t.value = .refused e) : s.operation = .refused e := by
  rw [operation_of_marked hs ht, h, andThen_refused]

/-- Settles O9: one condition after another in the order of R148. -/
theorem operationPriority : Obligations.OperationPriority := fun _ hj =>
  ⟨operation_of_fin hj, operation_of_flt hj, operation_of_no_marker, fun _ hs hsel =>
    ⟨fun h0 => operation_of_inadmissible hs hsel (h0 ▸ admitCount_zero _),
      fun h0 hfits => operation_of_inadmissible hs hsel (admitCount_tooLarge h0 hfits),
      operation_of_misplaced hs, operation_of_short_input hs, operation_of_short_output hs, operation_of_gate hs⟩⟩

/-! What these operations do. -/

/-- Settles O14: each of them answers the state it was given. -/
theorem noEffectOperationsComplete : Obligations.NoEffectOperationsComplete := by
  rintro s i (⟨b, rfl | rfl⟩ | rfl | ⟨b, c, rfl | rfl⟩) <;> rfl

/-- Settles O13: the two rows of `NOP_TERM` by the bit that is set. -/
theorem terminalInvocationWritesNothing : Obligations.TerminalInvocationWritesNothing := by
  intro s hj hterm
  cases hfin : s.fin with
  | true => exact ⟨_, operation_of_fin hj hfin, .inl ⟨_, rfl⟩, noEffectOperationsComplete _ _ (.inl ⟨_, .inl rfl⟩)⟩
  | false =>
    have hflt : s.flt = true := hterm.resolve_left (by simp [hfin])
    exact ⟨_, operation_of_flt hj hfin hflt, .inr ⟨_, rfl⟩, noEffectOperationsComplete _ _ (.inl ⟨_, .inr rfl⟩)⟩

/-- Settles O15: with `IN_EOD = 0` the operation without a marker is `IDLE`, which has no effect. -/
theorem idleWritesNothing : Obligations.IdleWritesNothing := fun s hs hsel heod =>
  ⟨by simpa [heod] using operation_of_no_marker hs hsel, noEffectOperationsComplete s _ (.inr (.inl rfl))⟩

/-- In `RUN` both bits of `STATUS` are 0 (R90). -/
theorem Running.status {s : State} (h : Running s) : s.status = 0 := by
  have bits : ∀ w : BitVec 2, w.getLsbD 0 = false → w.getLsbD 1 = false → w = 0 := by decide
  exact bits _ h.fin h.flt

/-- Settles O16: `STATUS` was 0, so that setting `FIN` makes it 01. -/
theorem finishSignalsEnd : Obligations.FinishSignalsEnd := by
  intro s hs hsel heod
  refine ⟨by simpa [heod] using operation_of_no_marker hs hsel, ?_⟩
  have fin_only : s.status ||| 1#2 = 0b01#2 := by rw [hs.status]; rfl
  rw [← fin_only]
  rfl

/-- The gate of R79 in the operands of R77. -/
theorem gate_iff {s : State} {count : Nat} : s.gate count = true ↔ s.reqOut count ≤ s.outCap ∧ reqIn count ≤ s.inLen := by
  simp [State.gate, State.outputSuffices, State.inputSuffices]

/-- Settles O18: the gate is false by its input or, where that suffices, by its output. -/
theorem waitWritesNothing : Obligations.WaitWritesNothing := by
  intro s t hs ht hi hgate
  by_cases hin : reqIn t.value ≤ s.inLen
  · have hout : s.outCap < s.reqOut t.value := by
      by_contra hle
      exact Bool.false_ne_true (hgate ▸ gate_iff.2 ⟨Nat.not_lt.1 hle, hin⟩)
    exact ⟨_, operation_of_short_output hs ht hi hin hout, .inr ⟨_, _, rfl⟩,
      noEffectOperationsComplete _ _ (.inr (.inr ⟨_, _, .inr rfl⟩))⟩
  · exact ⟨_, operation_of_short_input hs ht hi (Nat.not_le.1 hin), .inl ⟨_, _, rfl⟩,
      noEffectOperationsComplete _ _ (.inr (.inr ⟨_, _, .inl rfl⟩))⟩

/-- Settles O21: `req_in` is the same, and so is `req_out` with the same padding. -/
theorem gateIsMonotone : Obligations.GateIsMonotone := by
  intro s u count hp hpt hin hout h
  have same : u.reqOut count = s.reqOut count := by
    rw [State.reqOut, State.reqOut, State.padP, State.padT, hp, hpt]
    rfl
  obtain ⟨h1, h2⟩ := gate_iff.1 h
  exact gate_iff.2 ⟨by rw [same]; exact h1.trans hout, h2.trans hin⟩

/-- What an operation selected between emissions does, if it emits nothing: nothing, signal the end, or raise a fault. -/
theorem exec_of_not_emits {s t : State} {i : Instr} (hj : s.job = none) (hop : s.operation = .next i)
    (h : exec i s = .next t) (hi : emits i = false) : t = s ∨ t = s.signalled true ∨ ∃ c n, t = s.raiseFault c n := by
  obtain ⟨j, hsome, -⟩ | ⟨-, hd⟩ | ⟨-, -, -, hd⟩ := operation_cases hop
  · simp [hj] at hsome
  · obtain ⟨b, rfl | rfl⟩ := decodeStatus_ok hd <;> (cases h; exact .inl rfl)
  · obtain (rfl | ⟨a, b, rfl | rfl⟩) | rfl | ⟨e, rfl, -⟩ | he := decodeCond_ok hd
    · cases h; exact .inl rfl
    · cases h; exact .inl rfl
    · cases h; exact .inl rfl
    · cases h; exact .inr (.inl rfl)
    · obtain ⟨k, -, rfl⟩ := execFault_next h
      exact .inr (.inr ⟨_, _, rfl⟩)
    · rw [hi] at he
      cases he

/-- Settles O20: of the three, the first changes nothing, the others `OUT_FIN`, `STATUS` and the cause of a fault only. -/
theorem noMutationWithoutEmission : Obligations.NoMutationWithoutEmission := by
  intro s t i hj hop h hi
  obtain rfl | rfl | ⟨c, n, rfl⟩ := exec_of_not_emits hj hop h hi <;>
    exact ⟨rfl, fun _ => rfl, rfl, rfl, rfl, rfl, rfl, rfl, rfl, rfl, rfl, rfl, rfl, rfl⟩

end Sys2Proof.Machine
end

section
/-! The phases of an emission one at a time (spec/30_encoding.md R71, spec/40_gating_fsm.md R98; log 2): each step runs the
phase that the scratch names, and leaves the next one in it. -/

namespace Sys2Proof.Machine

/-- In the middle of an emission, with phase `p` next. -/
def State.AtPhase (s : State) (p : BitVec 4) : Prop := ∃ j, s.job = some j ∧ j.phase = p

theorem State.AtPhase.toPhase {s : State} {p : BitVec 4} (h : s.AtPhase p) (q : BitVec 4) : (s.toPhase q).AtPhase q := by
  obtain ⟨j, hj, -⟩ := h
  exact ⟨{ j with phase := q }, by simp [hj], rfl⟩

/-- Every micro-operation but the last leaves the phase behind its own in the scratch. -/
theorem exec_atPhase {s t : State} {p : BitVec 4} {i : Instr} (h : s.AtPhase p) (hi : (encode i).1 = .phase)
    (hlast : i ≠ .eodchk) (hex : exec i s = .next t) : t.AtPhase (BitVec.ofNat 4 (encode i).2 + 1) := by
  cases i with
  | padf => obtain ⟨m, rfl⟩ := execPadf_next hex; exact State.AtPhase.toPhase (s := s.withOut m) h 1
  | pre => obtain ⟨m, rfl⟩ := execPre_next hex; exact State.AtPhase.toPhase (s := s.withOut m) h 2
  | cpsym => obtain ⟨m, rfl⟩ := execCpsym_next hex; exact State.AtPhase.toPhase (s := s.withOut m) h 3
  | win0 => obtain ⟨m, rfl⟩ := execWin0_next hex; exact State.AtPhase.toPhase (s := s.withOut m) h 4
  | wink => obtain ⟨m, rfl⟩ := execWink_next hex; exact State.AtPhase.toPhase (s := s.withOut m) h 5
  | padt => obtain ⟨m, rfl⟩ := execPadt_next hex; exact State.AtPhase.toPhase (s := s.withOut m) h 6
  | consume => obtain ⟨j, -, rfl⟩ := execConsume_next hex; exact State.AtPhase.toPhase (s := s.consumed _) h 7
  | tagout => obtain ⟨j, -, rfl⟩ := execTagout_next hex; exact State.AtPhase.toPhase (s := s.tagged _ _) h 8
  | produce => obtain ⟨j, -, rfl⟩ := execProduce_next hex; exact State.AtPhase.toPhase (s := s.produced _) h 9
  | eodchk => exact absurd rfl hlast
  | nopTermFin _ | nopTermFlt _ | idle | finish | fault _ | waitIn _ _ | waitOut _ _ | emit _ | emitEod | emitFin =>
    cases hi

/-- A step at phase `p` is the micro-operation of `p`. -/
theorem step_atPhase {s : State} {p : BitVec 4} {i : Instr} (h : s.AtPhase p) (hd : decodePhase p = .ok i) :
    step s = exec i s := by
  obtain ⟨j, hj, rfl⟩ := h
  rw [step_emission hj, invoke_of_operation]
  rw [operation_of_job hj, operationOf_ok ((decodeWord_phase _).trans hd)]

/-- A run from phase `p` on: the micro-operation of `p`, then the run from the next phase on. -/
theorem runSteps_atPhase {s : State} {p : BitVec 4} {i : Instr} {n : Nat} {fs : List (State → Res State)} (h : s.AtPhase p)
    (hd : decodePhase p = .ok i) (hlast : i ≠ .eodchk)
    (rest : ∀ t : State, t.AtPhase (p + 1) → runSteps n t = runPhases fs t) :
    runSteps (n + 1) s = runPhases (exec i :: fs) s := by
  obtain ⟨-, henc⟩ := encode_of_decodePhase hd
  rw [runSteps, runPhases, step_atPhase h hd]
  cases hex : exec i s with
  | next t => exact rest t (by simpa [henc] using exec_atPhase h (by rw [henc]) hlast hex)
  | fault _ | refused _ => rfl

/-- From phase 0 on ten steps are the emission's ten phases. -/
theorem runSteps_eq_emitPhases {s : State} (h : s.AtPhase 0) : runSteps 10 s = runPhases emitPhases s :=
  runSteps_atPhase (i := .padf) h rfl (by decide) fun _ h =>
  runSteps_atPhase (i := .pre) h rfl (by decide) fun _ h =>
  runSteps_atPhase (i := .cpsym) h rfl (by decide) fun _ h =>
  runSteps_atPhase (i := .win0) h rfl (by decide) fun _ h =>
  runSteps_atPhase (i := .wink) h rfl (by decide) fun _ h =>
  runSteps_atPhase (i := .padt) h rfl (by decide) fun _ h =>
  runSteps_atPhase (i := .consume) h rfl (by decide) fun _ h =>
  runSteps_atPhase (i := .tagout) h rfl (by decide) fun _ h =>
  runSteps_atPhase (i := .produce) h rfl (by decide) fun t h => by
    rw [runSteps, step_atPhase (i := .eodchk) h rfl]
    rfl

/-- An emission of an admitted marker is its ten phases from the latched operands. -/
theorem emission_of_marked {s : State} {t : TagRec} (h : Marked s t) (e r : Bool) :
    emission e r s = runPhases emitPhases (s.latched t.value e r) := by
  rw [emission, withMarker_some h.sel, admitCount_next h.count h.fits, andThen_next]

/-- Settles O30: both are the ten phases in their order, whether they complete or fault. -/
theorem phasesOneByOneAreTheEmission : Obligations.PhasesOneByOneAreTheEmission := by
  intro s t e r h
  rw [core_run_eq, emission_of_marked h]
  exact runSteps_eq_emitPhases ⟨_, rfl, rfl⟩

end Sys2Proof.Machine
end

section
/-! What the phases that write the burst leave in the output window (spec/40_gating_fsm.md R98): the cells of each, and every
other cell as it was. -/

namespace Sys2Proof.Machine

/-! Writes of equal samples, of one sample, and of a stretch of a list. -/

theorem memRead_memWrite_replicate (m : Memory) (a n : Nat) (v : Sample) (i : Nat) :
    memRead (memWrite m a (List.replicate n v)) i = if a ≤ i ∧ i < a + n then some v else memRead m i := by
  rw [memRead_memWrite, List.length_replicate]
  refine ite_congr rfl (fun h => ?_) fun _ => rfl
  rw [List.getElem?_replicate, if_pos (by omega)]

theorem memRead_memWrite_one (m : Memory) (a : Nat) (v : Sample) (i : Nat) :
    memRead (memWrite m a [v]) i = if i = a then some v else memRead m i := by
  rw [← List.replicate_one, memRead_memWrite_replicate]
  exact ite_congr (by rw [eq_iff_iff]; omega) (fun _ => rfl) fun _ => rfl

theorem memRead_memWrite_slice {l : List Sample} {b n : Nat} (h : b + n ≤ l.length) (m : Memory) (a i : Nat) :
    memRead (memWrite m a ((l.drop b).take n)) i = if a ≤ i ∧ i < a + n then l[b + (i - a)]? else memRead m i := by
  have len : ((l.drop b).take n).length = n := by simp; omega
  rw [memRead_memWrite, len]
  refine ite_congr rfl (fun hi => ?_) fun _ => rfl
  rw [List.getElem?_take_of_lt (by omega), List.getElem?_drop]

/-! `PADF`, `PRE` and `PADT`. -/

theorem execPadf_cells {s : State} (h : s.padP ≤ s.outCap) :
    ∃ m, execPadf s = .next ((s.withOut m).toPhase 1) ∧
      ∀ i, memRead m i = if i < s.padP then some s.zero else memRead s.out i := by
  refine ⟨_, by rw [execPadf, writeOut_next (by simpa using h), andThen_next], fun i => ?_⟩
  rw [memRead_memWrite_replicate]
  simp

theorem execPre_cells {s : State} (h : s.padP + 320 ≤ s.outCap) :
    ∃ m, execPre s = .next ((s.withOut m).toPhase 2) ∧
      ∀ i, memRead m i = if s.padP ≤ i ∧ i < s.padP + 320 then s.rom.toList[i - s.padP]? else memRead s.out i := by
  refine ⟨_, by rw [execPre, readRom_whole, andThen_next, writeOut_next (by simpa using h), andThen_next], fun i => ?_⟩
  rw [memRead_memWrite]
  simp

theorem execPadt_cells {s : State} {j : Job} (hj : s.job = some j) (h : s.tail0 j.count + s.padT ≤ s.outCap) :
    ∃ m, execPadt s = .next ((s.withOut m).toPhase 6) ∧
      ∀ i, memRead m i =
        if s.tail0 j.count + 1 ≤ i ∧ i < s.tail0 j.count + s.padT then some s.zero else memRead s.out i := by
  have some_tail : 1 ≤ s.padT := Nat.le_max_right _ _
  refine ⟨_, by rw [execPadt, withJob_some hj, writeOut_next (by simp; omega), andThen_next], fun i => ?_⟩
  rw [memRead_memWrite_replicate, show s.tail0 j.count + 1 + (s.padT - 1) = s.tail0 j.count + s.padT by omega]

/-! `CPSYM`: the spans of R118, one behind the other from `base_0` on. -/

/-- Sample `n` of the spans without blends: the prefix of a symbol is the symbol's end (R118). -/
def State.prefixed (s : State) (n : Nat) : Option Sample := s.inn[64 * (n / 80) + (n % 80 + 48) % 64]?

@[simp] theorem State.withOut_prefixed (s : State) (m : Memory) : (s.withOut m).prefixed = s.prefixed := rfl

theorem prefixed_span (s : State) (k : Nat) {n : Nat} (h : n < 80) :
    s.prefixed (80 * k + n) = s.inn[64 * k + (n + 48) % 64]? := by
  rw [State.prefixed, show (80 * k + n) / 80 = k by omega, show (80 * k + n) % 80 = n by omega]

theorem cpSymbol_cells {k : Nat} {s : State} (hin : 64 * k + 64 ≤ s.inLen) (hout : s.base k + 80 ≤ s.outCap) :
    ∃ m, cpSymbol k s = .next (s.withOut m) ∧
      ∀ i, memRead m i =
        if s.base k ≤ i ∧ i < s.base k + 80 then s.inn[64 * k + (i - s.base k + 48) % 64]? else memRead s.out i := by
  have len : s.inn.length = s.inLen := rfl
  refine ⟨memWrite (memWrite s.out (s.base k) ((s.inn.drop (cpIndex k)).take 16)) (s.base k + 16)
    ((s.inn.drop (srcIndex k)).take 64), ?_, fun i => ?_⟩
  · rw [cpSymbol, readIn_next (by rw [cpIndex]; omega), andThen_next, writeOut_next (by simp; omega), andThen_next,
      readIn_next (by rw [srcIndex]; simp; omega), andThen_next, writeOut_next (by simp; omega)]
    rfl
  · rw [memRead_memWrite_slice (by rw [srcIndex]; omega), memRead_memWrite_slice (by rw [cpIndex]; omega), srcIndex, cpIndex]
    by_cases hhead : s.base k ≤ i ∧ i < s.base k + 16
    · rw [if_neg (by omega), if_pos hhead, if_pos (by omega)]
      congr 1; omega
    · by_cases hbody : s.base k + 16 ≤ i ∧ i < s.base k + 16 + 64
      · rw [if_pos hbody, if_pos (by omega)]
        congr 1; omega
      · rw [if_neg hbody, if_neg hhead, if_neg (by omega)]

/-- The spans stand one behind the other, each of 80 cells (R77). -/
theorem base_eq (s : State) (k : Nat) : s.base k = s.base 0 + 80 * k := rfl

/-- Span `k` behind the spans before it. -/
theorem spans_succ {s : State} {m m' : Memory} {k : Nat}
    (hm : ∀ i, memRead m i = if s.base 0 ≤ i ∧ i < s.base k then s.prefixed (i - s.base 0) else memRead s.out i)
    (hm' : ∀ i, memRead m' i =
      if s.base k ≤ i ∧ i < s.base k + 80 then s.inn[64 * k + (i - s.base k + 48) % 64]? else memRead m i) (i : Nat) :
    memRead m' i =
      if s.base 0 ≤ i ∧ i < s.base (k + 1) then s.prefixed (i - s.base 0) else memRead s.out i := by
  have base_k := base_eq s k
  have base_next := base_eq s (k + 1)
  rw [hm']
  by_cases hspan : s.base k ≤ i ∧ i < s.base k + 80
  · have inside : i - s.base 0 = 80 * k + (i - s.base k) := by omega
    rw [if_pos hspan, if_pos (by omega), inside, prefixed_span s k (by omega)]
  · rw [if_neg hspan, hm]
    exact ite_congr (by rw [eq_iff_iff]; omega) (fun _ => rfl) fun _ => rfl

theorem execCpsym_cells {s : State} {j : Job} (hj : s.job = some j) (hin : 64 * j.count ≤ s.inLen)
    (hout : s.tail0 j.count ≤ s.outCap) :
    ∃ m, execCpsym s = .next ((s.withOut m).toPhase 3) ∧
      ∀ i, memRead m i =
        if s.base 0 ≤ i ∧ i < s.tail0 j.count then s.prefixed (i - s.base 0) else memRead s.out i := by
  rw [State.tail0] at hout
  obtain ⟨_, loop, m, rfl, hm⟩ := forRange_complete cpSymbol
    (fun k u => ∃ m, u = s.withOut m ∧ ∀ i, memRead m i =
      if s.base 0 ≤ i ∧ i < s.base k then s.prefixed (i - s.base 0) else memRead s.out i)
    0 j.count s ⟨s.out, rfl, fun i => by rw [if_neg (by omega)]⟩ (by
      rintro k _ - hk ⟨m, rfl, hm⟩
      obtain ⟨m', hstep, hm'⟩ := cpSymbol_cells (k := k) (s := s.withOut m) (by simp; omega) (by simp [State.base]; omega)
      exact ⟨_, hstep, m', rfl, spans_succ hm hm'⟩)
  rw [Nat.zero_add] at hm
  exact ⟨m, by rw [execCpsym, withJob_some hj, loop, andThen_next], hm⟩

/-! `WIN0` and `WINK`: the seam cells. -/

theorem execWin0_cells {s : State} (hout : s.base 0 < s.outCap) (htap : s.par.tapPre < 320) :
    ∃ m, execWin0 s = .next ((s.withOut m).toPhase 4) ∧
      ∀ i, memRead m i =
        if i = s.base 0 then some (s.avg (s.cell (s.base 0)) s.rom[s.par.tapPre]) else memRead s.out i := by
  exact ⟨_, by rw [execWin0, readOutAt_next hout, andThen_next, readRomAt_next htap, andThen_next,
    writeOut_next (by simpa), andThen_next], memRead_memWrite_one _ _ _⟩

theorem blendSymbol_cells {k : Nat} {s : State} (hcell : s.base k < s.outCap)
    (hpartner : s.base (k - 1) + s.par.tapSym < s.outCap) :
    ∃ m, blendSymbol k s = .next (s.withOut m) ∧
      ∀ i, memRead m i =
        if i = s.base k then some (s.avg (s.cell (s.base k)) (s.cell (s.base (k - 1) + s.par.tapSym)))
        else memRead s.out i := by
  exact ⟨_, by rw [blendSymbol, readOutAt_next hcell, andThen_next, readOutAt_next hpartner, andThen_next,
    writeOut_next (by simpa)], memRead_memWrite_one _ _ _⟩

/-- Equal cells, whatever stands in the others. -/
theorem cell_congr {s : State} {m n : Memory} {i : Nat} (h : memRead m i = memRead n i) :
    (s.withOut m).cell i = (s.withOut n).cell i := by
  rw [withOut_cell, withOut_cell, h]

theorem cell_of_memRead {s : State} {m : Memory} {i : Nat} {v : Sample} (h : memRead m i = some v) :
    (s.withOut m).cell i = v := by
  rw [withOut_cell, h, Option.getD_some]

/-- The blends up to seam `k` have been made, each from the cells as they were in `s` (R129). -/
structure State.BlendedTo (s : State) (m : Memory) (k : Nat) : Prop where
  seam : ∀ i, 1 ≤ i → i < k →
    memRead m (s.base i) = some (s.avg (s.cell (s.base i)) (s.cell (s.base (i - 1) + s.par.tapSym)))
  rest : ∀ i, (∀ n, 1 ≤ n → n < k → i ≠ s.base n) → memRead m i = memRead s.out i

/-- Both cells of the next blend are no seam that has been blended: taps of 1 to 79 lie inside a span. -/
theorem State.BlendedTo.succ {s : State} {m m' : Memory} {k : Nat} (h : s.BlendedTo m k) (hk : 1 ≤ k)
    (hlow : 1 ≤ s.par.tapSym) (hhigh : s.par.tapSym ≤ 79)
    (hm' : ∀ i, memRead m' i =
      if i = s.base k then
        some (s.avg ((s.withOut m).cell (s.base k)) ((s.withOut m).cell (s.base (k - 1) + s.par.tapSym)))
      else memRead m i) : s.BlendedTo m' (k + 1) := by
  have cell_eq : ∀ i, (∀ n, 1 ≤ n → n < k → i ≠ s.base n) → (s.withOut m).cell i = s.cell i := fun i hi =>
    cell_congr (n := s.out) (h.rest i hi)
  constructor
  · intro i hi hik
    rw [hm']
    by_cases hlast : i = k
    · subst hlast
      rw [if_pos rfl, cell_eq _ (by simp only [State.base]; omega), cell_eq _ (by simp only [State.base]; omega)]
    · rw [if_neg (by simp only [State.base]; omega)]
      exact h.seam i hi (by omega)
  · intro i hi
    rw [hm', if_neg (hi k hk (by omega))]
    exact h.rest i fun n hn hnk => hi n hn (by omega)

theorem execWink_cells {s : State} {j : Job} (hj : s.job = some j) (hlow : 1 ≤ s.par.tapSym) (hhigh : s.par.tapSym ≤ 79)
    (hout : s.tail0 j.count ≤ s.outCap) :
    ∃ m, execWink s = .next ((s.withOut m).toPhase 5) ∧ s.BlendedTo m j.count := by
  rw [State.tail0] at hout
  obtain ⟨_, loop, m, rfl, hm⟩ := forRange_complete blendSymbol (fun k u => ∃ m, u = s.withOut m ∧ s.BlendedTo m k)
    1 (j.count - 1) s ⟨s.out, rfl, by omega, fun _ _ => rfl⟩ (by
      rintro k _ hk hlt ⟨m, rfl, hm⟩
      obtain ⟨m', hstep, hm'⟩ := blendSymbol_cells (k := k) (s := s.withOut m) (by simp [State.base]; omega)
        (by simp [State.base]; omega)
      exact ⟨_, hstep, m', rfl, hm.succ hk hlow hhigh hm'⟩)
  refine ⟨m, by rw [execWink, withJob_some hj, loop, andThen_next], fun i hi hik => hm.seam i hi (by omega), fun i hi =>
    hm.rest i fun n hn hnk => hi n hn (by omega)⟩

end Sys2Proof.Machine
end

section
/-! The emission of one burst (spec/40_gating_fsm.md R96 to R98): its writing phases leave the layout of R51 in the output
window, with the blends of R131, and its commit phases move it into the stream. -/

namespace Sys2Proof.Machine

/-! The layout, region by region (R51, R118). -/

theorem layout_front {s : State} {count i : Nat} (h : i < s.padP) : s.layout count i = s.zero := if_pos h

theorem layout_preamble {s : State} {count i : Nat} (hlow : s.padP ≤ i) (hhigh : i < s.padP + 320) :
    s.layout count i = s.romAt (i - s.padP) := by
  rw [State.padP] at hlow hhigh
  rw [State.layout, if_neg hlow.not_gt, if_pos hhigh, State.padP]

theorem layout_span {s : State} {count k n : Nat} (hk : k < count) (hn : n < 80) :
    s.layout count (s.base k + n) = if n = 0 then s.blend k else s.inAt (64 * k + (n + 48) % 64) := by
  have index : s.base k + n - s.padFront - 320 = 80 * k + n := by rw [State.base, State.padP]; omega
  have span : s.padFront + 320 ≤ s.base k + n ∧ s.base k + n < s.padFront + 320 + 80 * count := by
    rw [State.base, State.padP]; omega
  rw [State.layout, if_neg (by omega), if_neg (by omega), if_pos span.2, index,
    show (80 * k + n) / 80 = k by omega, show (80 * k + n) % 80 = n by omega]

theorem layout_tail0 (s : State) (count : Nat) : s.layout count (s.tail0 count) = s.cell (s.tail0 count) := by
  rw [State.layout, State.tail0, State.padP, if_neg (by omega), if_neg (by omega), if_neg (by omega), if_pos rfl]

theorem layout_tail {s : State} {count i : Nat} (h : s.tail0 count < i) : s.layout count i = s.zero := by
  rw [State.tail0, State.padP] at h
  rw [State.layout, if_neg (by omega), if_neg (by omega), if_neg (by omega), if_neg (by omega)]

/-! What is read of the input and of the ROM. -/

theorem inn_getElem? {s : State} {i : Nat} (h : i < s.inLen) : s.inn[i]? = some (s.inAt i) := by
  rw [State.inAt, List.getD_eq_getElem?_getD, List.getElem?_eq_getElem h, Option.getD_some]

theorem rom_getElem? {s : State} {i : Nat} (h : i < 320) : s.rom.toList[i]? = some (s.romAt i) := by
  rw [State.romAt, List.getD_eq_getElem?_getD, List.getElem?_eq_getElem (by simpa using h), Option.getD_some]

theorem rom_getElem {s : State} {i : Nat} (h : i < 320) : s.rom[i] = s.romAt i := by
  have := rom_getElem? (s := s) h
  rw [List.getElem?_eq_getElem (by simpa using h), Option.some_inj] at this
  exact this

/-! `PADF`, `PRE` and `CPSYM`: the burst before its seams are blended. -/

/-- The cells of a burst whose seam cells still hold the first samples of the prefixes. -/
structure State.Unblended (s : State) (count : Nat) (m : Memory) : Prop where
  seam : ∀ k, k < count → (s.withOut m).cell (s.base k) = s.inAt (64 * k + 48)
  rest : ∀ i, i < s.tail0 count → (∀ k, k < count → i ≠ s.base k) → (s.withOut m).cell i = s.layout count i
  tail : ∀ i, s.tail0 count ≤ i → (s.withOut m).cell i = s.cell i

@[simp] theorem State.toPhase_prefixed (s : State) (p : BitVec 4) : (s.toPhase p).prefixed = s.prefixed := rfl

/-- A cell of the spans before the blends. -/
theorem prefixed_eq {s : State} {count k n : Nat} (hin : 64 * count ≤ s.inLen) (hk : k < count) (hn : n < 80) :
    s.prefixed (s.base k + n - s.base 0) = some (s.inAt (64 * k + (n + 48) % 64)) := by
  have index : s.base k + n - s.base 0 = 80 * k + n := by rw [base_eq s k]; omega
  rw [index, prefixed_span s k hn, inn_getElem? (by omega)]

theorem unblended_of_cells {s : State} {count : Nat} {m₁ m₂ m₃ : Memory} (hin : 64 * count ≤ s.inLen)
    (padf : ∀ i, memRead m₁ i = if i < s.padP then some s.zero else memRead s.out i)
    (pre : ∀ i, memRead m₂ i =
      if s.padP ≤ i ∧ i < s.padP + 320 then s.rom.toList[i - s.padP]? else memRead m₁ i)
    (cpsym : ∀ i, memRead m₃ i =
      if s.base 0 ≤ i ∧ i < s.tail0 count then s.prefixed (i - s.base 0) else memRead m₂ i) : s.Unblended count m₃ := by
  have base_0 : s.base 0 = s.padP + 320 := rfl
  have tail_eq : s.tail0 count = s.base 0 + 80 * count := rfl
  have span : ∀ k n, k < count → n < 80 → (s.withOut m₃).cell (s.base k + n) = s.inAt (64 * k + (n + 48) % 64) := by
    intro k n hk hn
    have base_k := base_eq s k
    refine cell_of_memRead ?_
    rw [cpsym, if_pos (by omega), prefixed_eq hin hk hn]
  refine ⟨fun k hk => span k 0 hk (by omega), fun i hi hseam => ?_, fun i hi => ?_⟩
  · by_cases hfront : i < s.padP
    · rw [layout_front hfront]
      refine cell_of_memRead ?_
      rw [cpsym, if_neg (by omega), pre, if_neg (by omega), padf, if_pos hfront]
    · by_cases hpre : i < s.padP + 320
      · rw [layout_preamble (by omega) hpre]
        refine cell_of_memRead ?_
        rw [cpsym, if_neg (by omega), pre, if_pos (by omega), rom_getElem? (by omega)]
      · obtain ⟨k, n, hk, hn, rfl⟩ : ∃ k n, k < count ∧ n < 80 ∧ i = s.base k + n := by
          refine ⟨(i - s.base 0) / 80, (i - s.base 0) % 80, by omega, by omega, ?_⟩
          rw [base_eq]
          omega
        have inside : n ≠ 0 := fun h0 => hseam k hk (by rw [h0, Nat.add_zero])
        rw [span k n hk hn, layout_span hk hn, if_neg inside]
  · refine cell_congr (n := s.out) ?_
    rw [cpsym, if_neg (by omega), pre, if_neg (by omega), padf, if_neg (by omega)]

/-! Phases that follow one another. -/

@[simp] theorem toPhase_withOut (s : State) (p : BitVec 4) (m : Memory) :
    (s.toPhase p).withOut m = (s.withOut m).toPhase p := rfl

@[simp] theorem toPhase_toPhase (s : State) (p q : BitVec 4) : (s.toPhase p).toPhase q = s.toPhase q := by
  simp [State.toPhase, Function.comp_def]

theorem runPhases_cons_next {f : State → Res State} {fs : List (State → Res State)} {s t : State} (h : f s = .next t) :
    runPhases (f :: fs) s = runPhases fs t := by
  rw [runPhases, h, andThen_next]

theorem runPhases_append (fs gs : List (State → Res State)) (s : State) :
    runPhases (fs ++ gs) s = andThen (runPhases fs s) (runPhases gs) := by
  induction fs generalizing s with
  | nil => rfl
  | cons f fs ih =>
    rw [List.cons_append, runPhases, runPhases, andThen_assoc]
    exact congrArg (andThen (f s)) (funext ih)

theorem fillPhases_unblended {s : State} {count : Nat} (h : s.Gated count) :
    ∃ m, runPhases [execPadf, execPre, execCpsym] s = .next ((s.withOut m).toPhase 3) ∧ s.Unblended count m := by
  obtain ⟨_, e, r, hj⟩ := h.job
  obtain ⟨hfront, hpre, -, hspans, -⟩ := h.regions
  obtain ⟨m₁, run₁, padf⟩ := execPadf_cells hfront
  obtain ⟨m₂, run₂, pre⟩ := execPre_cells (s := (s.withOut m₁).toPhase 1) hpre
  obtain ⟨m₃, run₃, cpsym⟩ := execCpsym_cells (s := (((s.withOut m₁).toPhase 1).withOut m₂).toPhase 2)
    (j := ⟨2, count, e, r⟩) (by simp [hj]) h.input (by simpa using hspans)
  refine ⟨m₃, ?_, unblended_of_cells h.input padf (by simpa using pre) (by simpa using cpsym)⟩
  rw [runPhases_cons_next run₁, runPhases_cons_next run₂, runPhases_cons_next run₃]
  simp [runPhases]

/-! `WIN0` and `WINK`: the seams. -/

/-- The cells of a burst but its tail. -/
structure State.Blended (s : State) (count : Nat) (m : Memory) : Prop where
  burst : ∀ i, i < s.tail0 count → (s.withOut m).cell i = s.layout count i
  tail : ∀ i, s.tail0 count ≤ i → (s.withOut m).cell i = s.cell i

/-- The partner of a symbol seam lies in the span before it and is no seam itself (R129). -/
theorem State.Unblended.partner {s : State} {count k : Nat} {m : Memory} (h : s.Unblended count m) (hk : k < count)
    (hlow : 1 ≤ s.par.tapSym) (hhigh : s.par.tapSym ≤ 79) :
    (s.withOut m).cell (s.base k + s.par.tapSym) = s.inAt (64 * k + (s.par.tapSym + 48) % 64) := by
  have tail_eq : s.tail0 count = s.base 0 + 80 * count := rfl
  have base_k := base_eq s k
  rw [h.rest _ (by omega) (fun n _ => by rw [base_eq s n]; omega), layout_span hk (by omega), if_neg (by omega)]

theorem blended_of_cells {s : State} {count : Nat} {m₃ m₄ m₅ : Memory} (hcount : 0 < count) (ok : s.par.Ok)
    (h : s.Unblended count m₃)
    (win0 : ∀ i, memRead m₄ i =
      if i = s.base 0 then some (s.avg ((s.withOut m₃).cell (s.base 0)) (s.romAt s.par.tapPre)) else memRead m₃ i)
    (wink : (s.withOut m₄).BlendedTo m₅ count) : s.Blended count m₅ := by
  obtain ⟨-, hlow, hhigh, -⟩ := ok
  have tail_eq : s.tail0 count = s.base 0 + 80 * count := rfl
  have other₄ : ∀ i, i ≠ s.base 0 → (s.withOut m₄).cell i = (s.withOut m₃).cell i := fun i hi =>
    cell_congr (by rw [win0, if_neg hi])
  have other₅ : ∀ i, (∀ n, 1 ≤ n → n < count → i ≠ s.base n) → (s.withOut m₅).cell i = (s.withOut m₄).cell i :=
    fun i hi => cell_congr (wink.rest i hi)
  have seam : ∀ k, k < count → (s.withOut m₅).cell (s.base k) = s.blend k := by
    intro k hk
    have base_k := base_eq s k
    by_cases hfirst : k = 0
    · subst hfirst
      rw [other₅ _ fun n hn _ => by rw [base_eq s n]; omega, State.blend, if_pos rfl]
      refine cell_of_memRead ?_
      rw [win0, if_pos rfl, h.seam 0 hk]
    · have base_before := base_eq s (k - 1)
      rw [State.blend, if_neg hfirst, ← h.seam k hk, ← h.partner (k := k - 1) (by omega) hlow hhigh,
        ← other₄ _ (by omega), ← other₄ _ (by omega)]
      exact cell_of_memRead (wink.seam k (by omega) hk)
  constructor
  · intro i hi
    by_cases hseam : ∃ k, k < count ∧ i = s.base k
    · obtain ⟨k, hk, rfl⟩ := hseam
      have at_seam := layout_span (s := s) (n := 0) hk (by omega)
      rw [if_pos rfl, Nat.add_zero] at at_seam
      rw [seam k hk, at_seam]
    · have no_seam : ∀ k, k < count → i ≠ s.base k := fun k hk hik => hseam ⟨k, hk, hik⟩
      rw [← h.rest i hi no_seam, other₅ i fun n _ hn => no_seam n hn, other₄ i (no_seam 0 hcount)]
  · intro i hi
    rw [← h.tail i hi, other₅ i fun n _ hn => by rw [base_eq s n]; omega, other₄ i (by omega)]

theorem blendPhases_blended {s : State} {count : Nat} {m : Memory} (hcount : 0 < count) (h : s.Gated count)
    (hm : s.Unblended count m) :
    ∃ m', runPhases [execWin0, execWink] ((s.withOut m).toPhase 3) = .next ((s.withOut m').toPhase 5) ∧
      s.Blended count m' := by
  obtain ⟨_, e, r, hj⟩ := h.job
  obtain ⟨-, -, hseam, hspans, -⟩ := h.regions
  obtain ⟨tapPre, hlow, hhigh, -⟩ := h.taps
  obtain ⟨m₄, run₄, win0⟩ := execWin0_cells (s := (s.withOut m).toPhase 3) hseam tapPre
  obtain ⟨m₅, run₅, wink⟩ := execWink_cells (s := (((s.withOut m).toPhase 3).withOut m₄).toPhase 4)
    (j := ⟨4, count, e, r⟩) (by simp [hj]) hlow hhigh (by simpa using hspans)
  refine ⟨m₅, ?_, blended_of_cells hcount h.taps hm (fun i => ?_) ⟨by simpa using wink.seam, by simpa using wink.rest⟩⟩
  · rw [runPhases_cons_next run₄, runPhases_cons_next run₅]
    simp [runPhases]
  · simpa [rom_getElem tapPre] using win0 i

/-! `PADT` and the whole burst. -/

theorem layout_of_cells {s : State} {count : Nat} {m₅ m₆ : Memory} (h : s.Blended count m₅)
    (padt : ∀ i, memRead m₆ i =
      if s.tail0 count + 1 ≤ i ∧ i < s.tail0 count + s.padT then some s.zero else memRead m₅ i) {i : Nat}
    (hi : i < s.reqOut count) : (s.withOut m₆).cell i = s.layout count i := by
  have req_eq : s.reqOut count = s.tail0 count + s.padT := by rw [State.reqOut, State.tail0]; omega
  have other : ¬ (s.tail0 count + 1 ≤ i ∧ i < s.tail0 count + s.padT) → (s.withOut m₆).cell i = (s.withOut m₅).cell i :=
    fun hout => cell_congr (by rw [padt, if_neg hout])
  rcases Nat.lt_trichotomy i (s.tail0 count) with hlt | rfl | hgt
  · rw [other (by omega), h.burst i hlt]
  · rw [other (by omega), h.tail _ le_rfl, layout_tail0]
  · rw [layout_tail hgt]
    exact cell_of_memRead (by rw [padt, if_pos (by omega)])

/-- The phases that write the burst leave its layout in the window. -/
theorem writingPhases_layout {s : State} {count : Nat} (hcount : 0 < count) (h : s.Gated count) :
    ∃ m, runPhases [execPadf, execPre, execCpsym, execWin0, execWink, execPadt] s = .next ((s.withOut m).toPhase 6) ∧
      ∀ i, i < s.reqOut count → (s.withOut m).cell i = s.layout count i := by
  obtain ⟨_, e, r, hj⟩ := h.job
  obtain ⟨-, -, -, -, htail⟩ := h.regions
  obtain ⟨m₃, fill, unblended⟩ := fillPhases_unblended h
  obtain ⟨m₅, blend, blended⟩ := blendPhases_blended hcount h unblended
  obtain ⟨m₆, run₆, padt⟩ := execPadt_cells (s := (s.withOut m₅).toPhase 5) (j := ⟨5, count, e, r⟩) (by simp [hj])
    (by simpa using htail)
  refine ⟨m₆, ?_, fun i => layout_of_cells blended (by simpa using padt)⟩
  change runPhases ([execPadf, execPre, execCpsym] ++ ([execWin0, execWink] ++ [execPadt])) s = _
  rw [runPhases_append, fill, andThen_next, runPhases_append, blend, andThen_next, runPhases_cons_next run₆]
  simp [runPhases]

/-! The commit. -/

theorem execEodchk_complete {s : State} {j : Job} (hj : s.job = some j) :
    execEodchk s = .next ((s.signalled (j.e && j.r)).endEmission) := withJob_some hj _

/-- The commit phases take the burst out of the window as it stands there. -/
theorem commitPhases_eq {s : State} {j : Job} (hj : s.job = some j) (hin : reqIn j.count ≤ s.inLen)
    (hout : s.reqOut j.count ≤ s.outCap) :
    runPhases [execConsume, execTagout, execProduce, execEodchk] s =
      .next ((s.committed j.count s.out).signalled (j.e && j.r)) := by
  have some_cell : 0 < s.outCap := by rw [State.reqOut] at hout; omega
  have same_window : s.endEmission.withOut s.out = s.endEmission := rfl
  rw [runPhases_cons_next (execConsume_complete hj hin),
    runPhases_cons_next (execTagout_complete (j := { j with phase := 7 }) (by simp [hj]) (by simpa using some_cell)),
    runPhases_cons_next (execProduce_complete (j := { j with phase := 8 }) (by simp [hj]) (by simpa using hout)),
    runPhases_cons_next (execEodchk_complete (j := { j with phase := 9 }) (by simp [hj])), runPhases, ← committed_eq,
    same_window]
  simp

/-- A window whose cells are the layout gives the stream of `State.emitted`. -/
theorem committed_eq_emitted {s : State} {count : Nat} {m : Memory}
    (cells : ∀ i, i < s.reqOut count → (s.withOut m).cell i = s.layout count i) : s.committed count m = s.emitted count := by
  have burst : (s.withOut m).firstCells (s.reqOut count) = (List.range (s.reqOut count)).map (s.layout count) :=
    List.map_congr_left fun i hi => cells i (List.mem_range.1 hi)
  rw [State.committed, burst, State.reqOut, State.padP, State.padT]
  rfl

/-- An emission under the gate frames the burst, and signals the end where both `E` and `R` hold. -/
theorem emission_of_emittable {s : State} {t : TagRec} (h : Emittable s t) (e r : Bool) :
    emission e r s = .next ((s.emitted t.value).signalled (e && r)) := by
  obtain ⟨m, write, cells⟩ := writingPhases_layout (s := s.latched t.value e r) (Nat.pos_of_ne_zero h.marked.count)
    ⟨⟨0, e, r, rfl⟩, h.input, h.output, h.taps⟩
  have commit := commitPhases_eq (s := ((s.latched t.value e r).withOut m).toPhase 6) (j := ⟨6, t.value, e, r⟩) rfl
    h.input h.output
  rw [emission_of_marked h.marked]
  change runPhases ([execPadf, execPre, execCpsym, execWin0, execWink, execPadt] ++
    [execConsume, execTagout, execProduce, execEodchk]) _ = _
  rw [runPhases_append, write, andThen_next, commit, ← committed_eq_emitted (s := s) cells]
  rfl

/-- Settles O22: in the words of both rows of `EMIT` not both of `E` and `R` are set. -/
theorem emitFramesBurst : Obligations.EmitFramesBurst := fun _ _ h =>
  ⟨emission_of_emittable h false, emission_of_emittable h true false⟩

/-- Settles O23: in the word of `EMIT_FIN` they are. -/
theorem emitFinFramesBurstAndSignalsEnd : Obligations.EmitFinFramesBurstAndSignalsEnd := fun _ _ h =>
  emission_of_emittable h true true

end Sys2Proof.Machine
end

section
/-! The padding of a burst (spec/41_guard_padding.md R103 to R108): what `PADF` and `PADT` write, what the consumer gets of the
padding, and what it can see of the window's prior content. -/

namespace Sys2Proof.Machine

/-! `PADF` and `PADT`. -/

/-- Settles O31: the front padding begins at cell 0. -/
theorem padfWritesZeros : Obligations.PadfWritesZeros := fun _ => execPadf_cells

/-- With `PT = 1` the tail is its first cell, so that `PADT` writes nothing, whatever the window. -/
theorem execPadt_of_padT_one {s : State} {j : Job} (hj : s.job = some j) (h : s.padT = 1) :
    execPadt s = .next ((s.withOut (memWrite s.out (s.tail0 j.count + 1) [])).toPhase 6) := by
  have no_cells : List.replicate (s.padT - 1) s.zero = [] := by rw [h]; rfl
  rw [execPadt, withJob_some hj, no_cells, writeOut_eq_next.2 ⟨.inr rfl, rfl⟩, andThen_next]

/-- Settles O36: either there is nothing to write, or the tail lies in the window. -/
theorem padtLeavesFirstTailCell : Obligations.PadtLeavesFirstTailCell := by
  rintro s j hj (hshort | hout)
  · have one_cell : s.padT = 1 := Nat.max_eq_right (Nat.le_of_lt_succ hshort)
    refine ⟨_, execPadt_of_padT_one hj one_cell, fun i => ?_⟩
    rw [State.padT] at one_cell
    rw [memRead_memWrite, List.length_nil, if_neg (by omega), one_cell, if_neg (by omega)]
  · exact execPadt_cells hj hout

/-! The padding in the stream. -/

@[simp] theorem State.signalled_ostream (s : State) (last : Bool) : (s.signalled last).ostream = s.ostream := by
  cases last <;> rfl

/-- What a row that emits does under the conditions of an emission: whether it signals the end is fixed by the row. -/
theorem exec_of_emittable {i : Instr} (hi : emits i = true) :
    ∃ last, ∀ s t, Emittable s t → exec i s = .next ((s.emitted t.value).signalled last) := by
  match i, hi with
  | .emit r, _ => exact ⟨false, fun _ _ h => emission_of_emittable h false r⟩
  | .emitEod, _ => exact ⟨false, fun _ _ h => emission_of_emittable h true false⟩
  | .emitFin, _ => exact ⟨true, fun _ _ h => emission_of_emittable h true true⟩

theorem emitted_ostream (s : State) (count : Nat) :
    (s.emitted count).ostream = s.ostream ++ (List.range (s.reqOut count)).map (s.layout count) := rfl

/-- The stream after an emission holds the layout behind what it held before. -/
theorem emitted_ostream_getElem? {s : State} {count n : Nat} (h : n < s.reqOut count) :
    (s.emitted count).ostream[s.outPos + n]? = some (s.layout count n) := by
  rw [emitted_ostream, State.outPos, List.getElem?_append_right (Nat.le_add_right _ _), Nat.add_sub_cancel_left,
    List.getElem?_map, List.getElem?_range h, Option.map_some]

theorem emitted_outPos (s : State) (count : Nat) : (s.emitted count).outPos = s.outPos + s.reqOut count := by
  simp [emitted_ostream, State.outPos]

theorem reqOut_eq (s : State) (count : Nat) : s.reqOut count = s.tail0 count + s.padT := by
  rw [State.reqOut, State.tail0]
  omega

/-- Settles O27: the layout in its front, at its first tail cell and behind it. -/
theorem paddingAndFirstTailSample : Obligations.PaddingAndFirstTailSample := by
  intro s t i h hi
  obtain ⟨last, hexec⟩ := exec_of_emittable hi
  have tail_eq : s.tail0 t.value = s.padFront + 320 + 80 * t.value := rfl
  have req_eq := reqOut_eq s t.value
  have one_cell : 1 ≤ s.padT := Nat.le_max_right _ _
  refine ⟨_, hexec s t h, fun n hn => ?_, ?_, fun n hlow hhigh => ?_, ?_⟩
  · rw [State.signalled_ostream, emitted_ostream_getElem? (by omega), layout_front hn]
  · rw [State.signalled_ostream, ← tail_eq, emitted_ostream_getElem? (by omega), layout_tail0]
  · have inside : n < s.padT := hhigh
    rw [State.signalled_ostream, ← tail_eq, emitted_ostream_getElem? (by omega), layout_tail (by omega)]
  · rw [State.outPos, State.signalled_ostream, ← State.outPos, emitted_outPos, req_eq]
    rfl

/-! The window's prior content. -/

theorem Emittable.withOut {s : State} {t : TagRec} (h : Emittable s t) (m : Memory) : Emittable (s.withOut m) t :=
  ⟨⟨h.marked.sel, h.marked.count, h.marked.fits⟩, h.index, h.input, h.output, h.taps⟩

/-- The layout takes one sample from the window. -/
theorem layout_withOut {s : State} {count i : Nat} (h : i ≠ s.tail0 count) (m : Memory) :
    (s.withOut m).layout count i = s.layout count i := by
  rw [State.layout, State.layout, if_neg (c := i = s.padFront + 320 + 80 * count) h]
  exact ite_congr rfl (fun _ => rfl) fun _ => ite_congr rfl (fun _ => rfl) fun _ => ite_congr rfl (fun _ => rfl) fun _ =>
    if_neg h

/-- Elsewhere than at the burst's first tail sample the streams of two windows agree. -/
theorem emitted_withOut_ostream_getElem? {s : State} {count n : Nat} (h : n ≠ s.outPos + s.tail0 count) (m : Memory) :
    ((s.withOut m).emitted count).ostream[n]? = (s.emitted count).ostream[n]? := by
  rw [State.outPos] at h
  rw [emitted_ostream, emitted_ostream, List.getElem?_append, List.getElem?_append]
  refine ite_congr rfl (fun _ => rfl) fun hburst => ?_
  rw [List.getElem?_map, List.getElem?_map]
  refine Option.map_congr fun i hi => ?_
  obtain ⟨_, rfl⟩ := List.getElem?_eq_some_iff.1 hi
  rw [List.getElem_range, State.withOut_ostream]
  exact layout_withOut (by omega) m

/-- Settles O29: both runs emit, and their states differ in the layout's one cell of the window. -/
theorem priorContentShowsInOneSample : Obligations.PriorContentShowsInOneSample := by
  intro s t m i h hi
  obtain ⟨last, hexec⟩ := exec_of_emittable hi
  refine ⟨_, _, hexec s t h, hexec (s.withOut m) t (h.withOut m), fun n hn => ?_, ?_⟩
  · rw [State.signalled_ostream, State.signalled_ostream, emitted_withOut_ostream_getElem? hn]
  · cases last <;> rfl

end Sys2Proof.Machine
end

section
/-! `CFG.PAD_TAIL` is read through `PT = max(CFG.PAD_TAIL, 1)` only (spec/41_guard_padding.md R106, spec/30_encoding.md R76): an
invocation commutes with the update that puts `PT` in the place of `PAD_TAIL`, and that update turns 0 into 1. -/

namespace Sys2Proof.Machine

/-- The state with `PT` in the place of `CFG.PAD_TAIL`. -/
def State.withPadT (s : State) : State := { s with padTail := s.padT }

@[simp] theorem State.withPadT_padT (s : State) : s.withPadT.padT = s.padT := by
  simp [State.withPadT, State.padT]

@[simp] theorem State.withPadT_reqOut (s : State) (count : Nat) : s.withPadT.reqOut count = s.reqOut count := by
  rw [State.reqOut, State.withPadT_padT]
  rfl

/-- `PAD_TAIL` is no larger than `PT`, so that its own bound says nothing more. -/
theorem withPadT_fits (s : State) (count : Nat) : s.withPadT.fits count = s.fits count := by
  have le : s.padTail ≤ s.padT := Nat.le_max_left _ _
  have same : s.withPadT.padTail = s.padT := rfl
  rw [Bool.eq_iff_iff, fits_iff, fits_iff, State.withPadT_reqOut, State.withPadT_padT, same]
  exact and_congr_right fun _ => ⟨fun ⟨_, h⟩ => ⟨le.trans_lt h.1, h⟩, fun ⟨_, h⟩ => ⟨h.1, h⟩⟩

/-! Computations. -/

/-- `f` takes nothing of `CFG.PAD_TAIL` but `PT`, and keeps it. -/
def ReadsPadT (f : State → Res State) : Prop := ∀ s, f s.withPadT = andThen (f s) fun t => .next t.withPadT

namespace ReadsPadT

theorem next {f : State → State} (h : ∀ s, f s.withPadT = (f s).withPadT) : ReadsPadT fun s => .next (f s) := fun s =>
  congrArg _ (h s)

theorem andThen {f g : State → Res State} (hf : ReadsPadT f) (hg : ReadsPadT g) :
    ReadsPadT fun s => Machine.andThen (f s) g := by
  intro s
  beta_reduce
  rw [hf s, andThen_assoc, andThen_assoc]
  exact congrArg _ (funext hg)

/-- What is read of the state first is the same. -/
theorem bind {α : Type} {r : State → Res α} {f : α → State → Res State} (hr : ∀ s, r s.withPadT = r s)
    (hf : ∀ a, ReadsPadT (f a)) : ReadsPadT fun s => Machine.andThen (r s) fun a => f a s := by
  intro s
  beta_reduce
  rw [hr s, andThen_assoc]
  exact congrArg _ (funext fun a => hf a s)

theorem ite {p : State → Prop} [∀ s, Decidable (p s)] {f g : State → Res State} (hp : ∀ s, p s.withPadT ↔ p s)
    (hf : ReadsPadT f) (hg : ReadsPadT g) : ReadsPadT fun s => if p s then f s else g s := by
  intro s
  beta_reduce
  by_cases h : p s
  · rw [if_pos h, if_pos ((hp s).2 h), hf s]
  · rw [if_neg h, if_neg (mt (hp s).1 h), hg s]

theorem fault (e : Fault) : ReadsPadT fun _ => .fault e := fun _ => rfl

theorem withJob {f : Job → State → Res State} (hf : ∀ j, ReadsPadT (f j)) :
    ReadsPadT fun s => Machine.withJob s fun j => f j s := by
  intro s
  beta_reduce
  cases hj : s.job with
  | none => rw [withJob_none hj, withJob_none (s := s.withPadT) hj, andThen_refused]
  | some j => rw [withJob_some hj, withJob_some (s := s.withPadT) hj, hf j s]

theorem withMarker {f : TagRec → State → Res State} (hf : ∀ t, ReadsPadT (f t)) :
    ReadsPadT fun s => Machine.withMarker s fun t => f t s := by
  intro s
  beta_reduce
  have same : s.withPadT.sel = s.sel := rfl
  rw [Machine.withMarker, Machine.withMarker, same]
  cases s.sel with
  | none => rfl
  | some t => exact hf t s

theorem forRange {body : Nat → State → Res State} (h : ∀ k, ReadsPadT (body k)) (lo n : Nat) :
    ReadsPadT (Machine.forRange body lo n) := by
  induction n generalizing lo with
  | zero => exact next fun _ => rfl
  | succ n ih => exact (h lo).andThen (ih (lo + 1))

theorem toPhase (p : BitVec 4) : ReadsPadT fun s => .next (s.toPhase p) := next fun _ => rfl

theorem writeOut {a : State → Nat} {vs : State → List Sample} (ha : ∀ s, a s.withPadT = a s)
    (hvs : ∀ s, vs s.withPadT = vs s) : ReadsPadT fun s => Machine.writeOut s (a s) (vs s) :=
  ite (fun s => by rw [ha, hvs]; rfl) (next fun s => by rw [ha, hvs]; rfl) (fault _)

/-! The phases of an emission, and the emission. -/

theorem execPadf : ReadsPadT execPadf := .andThen (.writeOut (fun _ => rfl) fun _ => rfl) (.toPhase 1)

theorem execPre : ReadsPadT execPre :=
  .bind (fun _ => rfl) fun _ => .andThen (.writeOut (fun _ => rfl) fun _ => rfl) (.toPhase 2)

theorem cpSymbol (k : Nat) : ReadsPadT (cpSymbol k) :=
  .bind (fun _ => rfl) fun _ => .andThen (.writeOut (fun _ => rfl) fun _ => rfl)
    (.bind (fun _ => rfl) fun _ => .writeOut (fun _ => rfl) fun _ => rfl)

theorem execCpsym : ReadsPadT execCpsym := .withJob fun j => .andThen (.forRange cpSymbol 0 j.count) (.toPhase 3)

theorem execWin0 : ReadsPadT execWin0 :=
  .bind (fun _ => rfl) fun _ => .bind (fun _ => rfl) fun _ => .andThen (.writeOut (fun _ => rfl) fun _ => rfl) (.toPhase 4)

theorem blendSymbol (k : Nat) : ReadsPadT (blendSymbol k) :=
  .bind (fun _ => rfl) fun _ => .bind (fun _ => rfl) fun _ => .writeOut (fun _ => rfl) fun _ => rfl

theorem execWink : ReadsPadT execWink :=
  .withJob fun j => .andThen (.forRange blendSymbol 1 (j.count - 1)) (.toPhase 5)

theorem execPadt : ReadsPadT execPadt :=
  .withJob fun _ => .andThen (.writeOut (fun _ => rfl) fun s => by rw [State.withPadT_padT]; rfl) (.toPhase 6)

theorem execConsume : ReadsPadT execConsume :=
  .withJob fun _ => .andThen (.ite (fun _ => .rfl) (.next fun _ => rfl) (.fault _)) (.toPhase 7)

theorem execTagout : ReadsPadT execTagout :=
  .withJob fun j => .andThen (.ite (fun _ => .rfl) (.next fun s => by rw [State.withPadT_reqOut]; rfl) (.fault _)) (.toPhase 8)

theorem execProduce : ReadsPadT execProduce :=
  .withJob fun j => .andThen
    (.ite (fun s => by rw [State.withPadT_reqOut]; rfl) (.next fun s => by rw [State.withPadT_reqOut]; rfl) (.fault _))
    (.toPhase 9)

theorem execEodchk : ReadsPadT execEodchk := .withJob fun j => .next fun s => by cases j.e && j.r <;> rfl

theorem runPhases {fs : List (State → Res State)} (h : ∀ f ∈ fs, ReadsPadT f) : ReadsPadT (runPhases fs) := by
  induction fs with
  | nil => exact next fun _ => rfl
  | cons f fs ih =>
    rw [List.forall_mem_cons] at h
    exact h.1.andThen (ih h.2)

theorem emitPhases : ∀ f ∈ emitPhases, ReadsPadT f := by
  simp [Machine.emitPhases, execPadf, execPre, execCpsym, execWin0, execWink, execPadt, execConsume, execTagout,
    execProduce, execEodchk]

end ReadsPadT

theorem withPadT_admitCount (s : State) (count : Nat) : admitCount s.withPadT count = admitCount s count := by
  rw [admitCount, admitCount, withPadT_fits]

theorem emission_readsPadT (e r : Bool) : ReadsPadT (emission e r) :=
  .withMarker fun _ => .bind (fun s => withPadT_admitCount s _) fun _ s =>
    ReadsPadT.runPhases .emitPhases (s.latched _ e r)

theorem exec_readsPadT (i : Instr) : ReadsPadT (exec i) := by
  cases i with
  | nopTermFin _ | nopTermFlt _ | idle | waitIn _ _ | waitOut _ _ | finish => exact .next fun _ => rfl
  | fault _ => exact .withMarker fun _ => .next fun _ => rfl
  | emit r => exact emission_readsPadT false r
  | emitEod => exact emission_readsPadT true false
  | emitFin => exact emission_readsPadT true true
  | padf => exact .execPadf
  | pre => exact .execPre
  | cpsym => exact .execCpsym
  | win0 => exact .execWin0
  | wink => exact .execWink
  | padt => exact .execPadt
  | consume => exact .execConsume
  | tagout => exact .execTagout
  | produce => exact .execProduce
  | eodchk => exact .execEodchk

/-! The selection, and the step. -/

theorem withPadT_cond (s : State) : s.withPadT.cond = s.cond := by
  have room : ∀ n, s.withPadT.outputSuffices n = s.outputSuffices n := fun n => by
    rw [State.outputSuffices, State.withPadT_reqOut]
    rfl
  simp only [State.cond, room]
  rfl

theorem withPadT_operation (s : State) : s.withPadT.operation = s.operation := by
  simp only [State.operation, withPadT_cond, withPadT_admitCount]
  rfl

theorem invoke_readsPadT : ReadsPadT invoke := .bind withPadT_operation exec_readsPadT

theorem withPadT_of_zero {s : State} (h : s.padTail = 0) : s.withPadT = { s with padTail := 1 } := by
  rw [State.withPadT, State.padT, h]
  rfl

/-- An invocation keeps `PAD_TAIL`, so that what it answers with `PAD_TAIL = 1` is what it answers with 0, but for that field. -/
theorem invoke_padTail_one {s : State} (h : s.padTail = 0) :
    invoke { s with padTail := 1 } = andThen (invoke s) fun t => .next { t with padTail := 1 } := by
  rw [← withPadT_of_zero h, invoke_readsPadT s]
  cases ht : invoke s with
  | next t => exact congrArg Host.Outcome.next (withPadT_of_zero ((invoke_continues ht).padTail.trans h))
  | fault _ | refused _ => rfl

/-- Settles O28: with an empty agenda and no scratch both steps are invocations. -/
theorem padTailZeroAndOneAgree : Obligations.PadTailZeroAndOneAgree := by
  intro s hj
  rw [step_invoke (s := { s with padTail := 0, agenda := [] }) hj rfl,
    step_invoke (s := { s with padTail := 1, agenda := [] }) hj rfl,
    invoke_padTail_one (s := { s with padTail := 0, agenda := [] }) rfl]
  refine ⟨fun t h => by rw [h, andThen_next], fun t h => ?_⟩
  obtain ⟨u, hu, htu⟩ := andThen_eq_next.1 h
  cases htu
  have kept : u.padTail = 0 := (invoke_continues hu).padTail
  rw [hu, ← kept]

end Sys2Proof.Machine
end

section
/-! The preamble of a burst (spec/42_preamble_rom.md R114, R115): what `PRE` writes, and what the consumer gets of it. -/

namespace Sys2Proof.Machine

/-- Settles O32: the cells that `PRE` writes, read at their offsets in the table, and the cells on either side. -/
theorem preCopiesTable : Obligations.PreCopiesTable := by
  intro s hout
  obtain ⟨m, hexec, cells⟩ := execPre_cells hout
  rw [State.padP] at cells
  refine ⟨m, hexec, fun i hi => ?_, fun i hi => ?_⟩
  · rw [cells, if_pos (by omega), Nat.add_sub_cancel_left, rom_getElem? hi, rom_getElem hi]
  · rw [cells, if_neg (by omega)]

theorem layout_preamble_add {s : State} {n : Nat} (count : Nat) (h : n < 320) :
    s.layout count (s.padP + n) = s.rom[n] := by
  rw [layout_preamble (Nat.le_add_right _ _) (by omega), Nat.add_sub_cancel_left, rom_getElem h]

/-- Settles O24: the layout in its preamble region, which the seams of R131 leave alone. -/
theorem preambleRegionEqualsTable : Obligations.PreambleRegionEqualsTable := by
  intro s t i h hi
  obtain ⟨last, hexec⟩ := exec_of_emittable hi
  refine ⟨_, hexec s t h, fun n hn => ?_⟩
  have inside : s.padP + n < s.reqOut t.value := by
    rw [State.reqOut]
    omega
  rw [State.signalled_ostream, Nat.add_assoc, ← State.padP, emitted_ostream_getElem? inside, layout_preamble_add _ hn]

end Sys2Proof.Machine
end

section
/-! The symbols of a burst (spec/43_cyclic_prefix.md R117 to R120): what `CPSYM` writes, and what the consumer gets of it. -/

namespace Sys2Proof.Machine

/-- Settles O33: the spans that `CPSYM` writes, read at their offsets in each symbol, and the cells on either side. -/
theorem cpsymWritesSpans : Obligations.CpsymWritesSpans := by
  intro s j hj hin hout
  obtain ⟨m, hexec, cells⟩ := execCpsym_cells hj hin hout
  rw [State.base, State.tail0, State.padP] at cells
  refine ⟨m, hexec, fun k hk n hn => ?_, fun i hi => ?_⟩
  · have offset : s.padFront + 320 + 80 * k + n - (s.padFront + 320 + 80 * 0) = 80 * k + n := by omega
    rw [cells, if_pos (by omega), offset, prefixed_span s k hn]
  · rw [cells, if_neg (by omega)]

/-- Every sample of a span but its first, which the seams of R131 blend, is the input's in the stream (R118, R120). -/
theorem emitted_ostream_span {s : State} {count k n : Nat} (hin : 64 * count ≤ s.inLen) (hk : k < count) (hn : n < 80)
    (hfirst : n ≠ 0) : (s.emitted count).ostream[s.outPos + (s.base k + n)]? = s.inn[64 * k + (n + 48) % 64]? := by
  have inside : s.base k + n < s.reqOut count := by
    rw [State.base, State.reqOut]
    omega
  rw [emitted_ostream_getElem? inside, layout_span hk hn, if_neg hfirst, inn_getElem? (by omega)]

/-- Settles O25: the symbol's data stand in the span from offset 16 on, its end before them from offset 1 on. -/
theorem symbolsRoundTrip : Obligations.SymbolsRoundTrip := by
  intro s t i h hi
  obtain ⟨last, hexec⟩ := exec_of_emittable hi
  refine ⟨_, hexec s t h, fun k hk => ⟨fun j hj => ?_, fun j hlow hhigh => ?_⟩⟩
  · have source : (16 + j + 48) % 64 = j := by omega
    rw [State.signalled_ostream, ← State.padP, ← State.base, Nat.add_assoc (s.base k),
      emitted_ostream_span h.input hk (by omega) (by omega), source]
  · have source : (j + 48) % 64 = 48 + j := by omega
    rw [State.signalled_ostream, ← State.padP, ← State.base,
      emitted_ostream_span h.input hk (by omega) (by omega), source, Nat.add_assoc]

end Sys2Proof.Machine
end

section
/-! The seams of a burst (spec/44_window.md R123 to R131): what `WIN0` and `WINK` write, and what the consumer gets of it. -/

namespace Sys2Proof.Machine

/-- Settles O34: the one cell that `WIN0` writes. -/
theorem win0BlendsPreambleSeam : Obligations.Win0BlendsPreambleSeam := by
  intro s hout htap
  obtain ⟨m, hexec, cells⟩ := execWin0_cells (s := s) hout htap
  exact ⟨m, hexec, (cells _).trans (if_pos rfl), fun i hi => (cells i).trans (if_neg hi)⟩

/-- Settles O35: with taps of 1 to 79 every partner lies inside a span, so that each blend reads what the phase was given. -/
theorem winkBlendsSymbolSeams : Obligations.WinkBlendsSymbolSeams := by
  rintro s j hj ⟨-, hlow, hhigh, -⟩ hout
  obtain ⟨m, hexec, blended⟩ := execWink_cells hj hlow hhigh hout
  exact ⟨m, hexec, blended.seam, blended.rest⟩

/-- The first sample of a span is its seam's blend in the stream (R131). -/
theorem emitted_ostream_seam {s : State} {count k : Nat} (hk : k < count) :
    (s.emitted count).ostream[s.outPos + s.base k]? = some (s.blend k) := by
  have inside : s.base k < s.reqOut count := by
    rw [State.base, State.reqOut]
    omega
  have first := layout_span (s := s) (n := 0) hk (by omega)
  rw [Nat.add_zero, if_pos rfl] at first
  rw [emitted_ostream_getElem? inside, first]

/-- Settles O26: the blends of R131, whose operands lie in the window and in the table. -/
theorem blendedCells : Obligations.BlendedCells := by
  intro s t i h hi
  obtain ⟨last, hexec⟩ := exec_of_emittable hi
  have some_symbol : 0 < t.value := Nat.pos_of_ne_zero h.marked.count
  have window := h.input
  refine ⟨_, hexec s t h, ⟨_, inn_getElem? (by omega), fun htap => ?_⟩, fun k hlow hk => ⟨_, _,
    inn_getElem? (by omega), inn_getElem? (by omega), ?_⟩⟩
  · have seam := emitted_ostream_seam (s := s) some_symbol
    rw [State.blend, if_pos rfl, ← rom_getElem htap] at seam
    rwa [State.signalled_ostream]
  · have seam := emitted_ostream_seam (s := s) hk
    rw [State.blend, if_neg (by omega)] at seam
    rwa [State.signalled_ostream]

end Sys2Proof.Machine
end

section
/-! The fields of binary32 patterns (log 4): the sign, the exponent and the fraction say all of a pattern, its class by the
exponent, its value by the magnitude and the sign. -/

namespace Sys2Proof.Machine

/-! A packed pattern. -/

theorem f32Sign_eq (a : B32) : f32Sign a = decide (2 ^ 31 ≤ a.toNat) :=
  (BitVec.msb_eq_getLsbD_last a).symm.trans (BitVec.msb_eq_decide a)

theorem f32Pack_toNat (sign : Bool) {bits : Nat} (h : bits < 2 ^ 31) :
    (f32Pack sign bits).toNat = (if sign then 2 ^ 31 else 0) + bits := by
  rw [f32Pack, BitVec.toNat_ofNat, Nat.mod_eq_of_lt]
  split <;> omega

theorem f32Exp_pack (sign : Bool) {bits : Nat} (h : bits < 2 ^ 31) : f32Exp (f32Pack sign bits) = bits / 2 ^ 23 := by
  rw [f32Exp, f32Pack_toNat sign h]
  split <;> omega

theorem f32Frac_pack (sign : Bool) {bits : Nat} (h : bits < 2 ^ 31) : f32Frac (f32Pack sign bits) = bits % 2 ^ 23 := by
  rw [f32Frac, f32Pack_toNat sign h]
  split <;> omega

theorem f32Exp_lt (a : B32) : f32Exp a < 2 ^ 8 := Nat.mod_lt _ (by decide)

theorem f32Frac_lt (a : B32) : f32Frac a < 2 ^ 23 := Nat.mod_lt _ (by decide)

/-- The pattern with another sign. -/
def f32WithSign (sign : Bool) (a : B32) : B32 := f32Pack sign (f32Exp a * 2 ^ 23 + f32Frac a)

theorem f32Body_lt (a : B32) : f32Exp a * 2 ^ 23 + f32Frac a < 2 ^ 31 := by
  have := f32Exp_lt a
  have := f32Frac_lt a
  omega

@[simp] theorem f32Exp_withSign (sign : Bool) (a : B32) : f32Exp (f32WithSign sign a) = f32Exp a := by
  have := f32Frac_lt a
  rw [f32WithSign, f32Exp_pack sign (f32Body_lt a)]
  omega

@[simp] theorem f32Frac_withSign (sign : Bool) (a : B32) : f32Frac (f32WithSign sign a) = f32Frac a := by
  have := f32Frac_lt a
  rw [f32WithSign, f32Frac_pack sign (f32Body_lt a)]
  omega

@[simp] theorem f32WithSign_self (a : B32) : f32WithSign (f32Sign a) a = a := by
  have := a.isLt
  apply BitVec.eq_of_toNat_eq
  rw [f32WithSign, f32Pack_toNat _ (f32Body_lt a), f32Sign_eq, f32Exp, f32Frac]
  by_cases h : 2 ^ 31 ≤ a.toNat
  · rw [decide_eq_true h, if_pos rfl]
    omega
  · rw [decide_eq_false h, if_neg Bool.false_ne_true]
    omega

@[simp] theorem f32IsFinite_withSign (sign : Bool) (a : B32) : f32IsFinite (f32WithSign sign a) = f32IsFinite a := by
  rw [f32IsFinite, f32IsFinite, f32Exp_withSign]

@[simp] theorem f32Mag_withSign (sign : Bool) (a : B32) : f32Mag (f32WithSign sign a) = f32Mag a := by
  rw [f32Mag, f32Mag, f32Exp_withSign, f32Frac_withSign]

/-! The classes. -/

theorem f32IsFinite_eq_false_iff {a : B32} : f32IsFinite a = false ↔ f32IsNan a = true ∨ f32IsInf a = true := by
  by_cases h : f32Frac a = 0 <;> simp [f32IsFinite, f32IsNan, f32IsInf, h]

theorem f32IsNan_of_finite {a : B32} (h : f32IsFinite a = true) : f32IsNan a = false := by
  have exp : f32Exp a ≠ 255 := by simpa [f32IsFinite] using h
  simp [f32IsNan, exp]

theorem f32IsInf_of_finite {a : B32} (h : f32IsFinite a = true) : f32IsInf a = false := by
  have exp : f32Exp a ≠ 255 := by simpa [f32IsFinite] using h
  simp [f32IsInf, exp]

theorem f32IsNan_pack (sign : Bool) {payload : Nat} (h0 : payload ≠ 0) (h : payload < 2 ^ 23) :
    f32IsNan (f32Pack sign (255 * 2 ^ 23 + payload)) = true := by
  have bits : 255 * 2 ^ 23 + payload < 2 ^ 31 := by omega
  rw [f32IsNan, f32Exp_pack sign bits, f32Frac_pack sign bits, show (255 * 2 ^ 23 + payload) / 2 ^ 23 = 255 by omega,
    show (255 * 2 ^ 23 + payload) % 2 ^ 23 = payload by omega]
  simpa using h0

theorem f32IsNan_nanOf (v : B32) : f32IsNan (f32NanOf v) = true := by
  have frac := f32Frac_lt v
  exact f32IsNan_pack _ (by split <;> omega) (by split <;> omega)

theorem f32IsInf_inf (sign : Bool) : f32IsInf (f32Inf sign) = true := by
  cases sign <;> decide

/-- An infinity has one pattern for each sign. -/
theorem eq_inf_of_isInf {a : B32} (h : f32IsInf a = true) : a = f32Inf (f32Sign a) := by
  have fields : f32Exp a = 255 ∧ f32Frac a = 0 := by simpa [f32IsInf] using h
  conv_lhs => rw [← f32WithSign_self a, f32WithSign, fields.1, fields.2]
  rfl

/-! The values. -/

theorem natAbs_f32Units (a : B32) : (f32Units a).natAbs = f32Mag a := by
  rw [f32Units]
  split <;> omega

/-- Where the value is not zero, the sign of the pattern is the value's. -/
theorem f32Sign_of_units {a : B32} (h : f32Units a ≠ 0) : f32Sign a = decide (f32Units a < 0) := by
  rw [f32Units] at h ⊢
  cases hs : f32Sign a <;> simp_all
  omega

theorem f32Pack_zero (sign : Bool) : f32IsFinite (f32Pack sign 0) = true ∧ f32Units (f32Pack sign 0) = 0 := by
  cases sign <;> decide

/-- The sign of a zero has no influence on its value. -/
theorem f32Units_withSign {sign : Bool} {a : B32} (h : f32Units a ≠ 0 → sign = f32Sign a) :
    f32Units (f32WithSign sign a) = f32Units a := by
  by_cases h0 : f32Units a = 0
  · have mag : f32Mag a = 0 := by rw [← natAbs_f32Units, h0]; rfl
    rw [h0, f32Units, f32Mag_withSign, mag]
    simp
  · rw [h h0, f32WithSign_self]

end Sys2Proof.Machine
end

section
/-! The default average (spec/44_window.md R128; log 4): an exactly representable result is not rounded, and what is no
finite number stays none. -/

namespace Sys2Proof.Machine

/-! Rounding. -/

theorem roundShift_mul_pow (n s : Nat) : roundShift (n * 2 ^ s) s = n := by
  have pos : 0 < 2 ^ s := Nat.two_pow_pos s
  rw [roundShift, Nat.mul_div_cancel _ pos, Nat.mul_mod_left]
  exact if_neg (by omega)

theorem log2_mul_two_pow {n : Nat} (h : n ≠ 0) (k : Nat) : Nat.log2 (n * 2 ^ k) = Nat.log2 n + k := by
  induction k with
  | zero => simp
  | succ k ih =>
    rw [show n * 2 ^ (k + 1) = 2 * (n * 2 ^ k) by ring, Nat.log2_two_mul (by positivity), ih]
    rfl

/-- The place at which a pattern's magnitude is rounded is its own last place. -/
theorem f32_place (a : B32) (q : Nat) : max q (Nat.log2 (f32Mag a * 2 ^ q) - 23) = q + (f32Exp a - 1) := by
  have frac := f32Frac_lt a
  by_cases h : f32Exp a = 0
  · rw [f32Mag, if_pos h, h]
    by_cases h0 : f32Frac a = 0
    · simp [h0]
    · have small := (Nat.log2_lt h0).2 frac
      rw [log2_mul_two_pow h0]
      omega
  · have top : Nat.log2 (2 ^ 23 + f32Frac a) = 23 := (Nat.log2_eq_iff (by omega)).2 ⟨by omega, by omega⟩
    rw [f32Mag, if_neg h, Nat.mul_assoc, ← pow_add, log2_mul_two_pow (by omega), top]
    omega

/-- A magnitude that a pattern has is not rounded. -/
theorem f32Round_mag {a : B32} (h : f32IsFinite a = true) (sign : Bool) (q : Nat) :
    f32Round sign (f32Mag a * 2 ^ q) q = f32WithSign sign a := by
  have exp_ne : f32Exp a ≠ 255 := by simpa [f32IsFinite] using h
  have exp := f32Exp_lt a
  have frac := f32Frac_lt a
  have bits : roundShift (f32Mag a * 2 ^ q) (q + (f32Exp a - 1)) + (q + (f32Exp a - 1) - q) * 2 ^ 23 =
      f32Exp a * 2 ^ 23 + f32Frac a := by
    rw [f32Mag]
    by_cases h0 : f32Exp a = 0
    · rw [if_pos h0, h0, Nat.zero_sub, Nat.add_zero, roundShift_mul_pow]
      omega
    · rw [if_neg h0, Nat.mul_assoc, ← pow_add, Nat.add_comm _ q, roundShift_mul_pow]
      omega
  rw [f32Round]
  simp only [f32_place, bits]
  exact if_neg (by omega)

/-! The operations by the classes of their operands. -/

/-- The operands whose sum is a NaN. -/
def f32SumIsNan (a b : B32) : Bool :=
  f32IsNan a || f32IsNan b || (f32IsInf a && f32IsInf b && f32Sign a != f32Sign b)

theorem f32SumIsNan_comm (a b : B32) : f32SumIsNan b a = f32SumIsNan a b := by
  rw [f32SumIsNan, f32SumIsNan, Bool.or_comm (f32IsNan b), Bool.and_comm (f32IsInf b), bne_comm]

theorem add32_of_nan {a b : B32} (h : f32SumIsNan a b = true) : add32 a b = f32NanOf (Config.freeAddNan a b) := if_pos h

section
variable {a b : B32} (h : f32SumIsNan a b = false)
include h

theorem add32_of_inf_left (ha : f32IsInf a = true) : add32 a b = a := by
  rw [add32, ← f32SumIsNan, h, if_neg Bool.false_ne_true, if_pos ha]

theorem add32_of_inf_right (hb : f32IsInf b = true) : add32 a b = b := by
  cases ha : f32IsInf a with
  | true =>
    have same_sign : f32Sign a = f32Sign b := by simp_all [f32SumIsNan]
    rw [add32_of_inf_left h ha, eq_inf_of_isInf ha, eq_inf_of_isInf hb, same_sign]
  | false => rw [add32, ← f32SumIsNan, h, if_neg Bool.false_ne_true, ha, if_neg Bool.false_ne_true, if_pos hb]

theorem add32_of_no_inf (ha : f32IsInf a = false) (hb : f32IsInf b = false) :
    add32 a b =
      if f32Units a + f32Units b = 0 then f32Pack (f32Sign a && f32Sign b) 0
      else f32Round (f32Units a + f32Units b < 0) (f32Units a + f32Units b).natAbs 0 := by
  rw [add32, ← f32SumIsNan, h, if_neg Bool.false_ne_true, ha, if_neg Bool.false_ne_true, hb, if_neg Bool.false_ne_true]

end

theorem f32SumIsNan_of_finite {a b : B32} (ha : f32IsFinite a = true) (hb : f32IsFinite b = true) :
    f32SumIsNan a b = false := by
  simp [f32SumIsNan, f32IsNan_of_finite ha, f32IsNan_of_finite hb, f32IsInf_of_finite ha]

theorem mul32_of_finite {a b : B32} (ha : f32IsFinite a = true) (hb : f32IsFinite b = true) :
    mul32 a b = f32Round (f32Sign a != f32Sign b) (f32Mag a * f32Mag b) 149 := by
  simp [mul32, f32IsNan_of_finite, f32IsInf_of_finite, ha, hb]

/-! Commutativity. -/

/-- A sum that is a number is the same in both orders. -/
theorem add32_comm {a b : B32} (h : f32IsNan (add32 a b) = false) : add32 b a = add32 a b := by
  have number : f32SumIsNan a b = false := by
    by_contra hn
    rw [add32_of_nan (by simpa using hn), f32IsNan_nanOf] at h
    cases h
  have swapped := (f32SumIsNan_comm a b).trans number
  cases ha : f32IsInf a with
  | true => rw [add32_of_inf_left number ha, add32_of_inf_right swapped ha]
  | false =>
    cases hb : f32IsInf b with
    | true => rw [add32_of_inf_right number hb, add32_of_inf_left swapped hb]
    | false => rw [add32_of_no_inf number ha hb, add32_of_no_inf swapped hb ha, Int.add_comm, Bool.and_comm]

theorem avg32_comm {a b : B32} (h : f32IsNan (add32 a b) = false) : avg32 b a = avg32 a b := by
  rw [avg32, avg32, add32_comm h]

/-- Settles O58: the formula is the definition of the default average, and its sum is the same in both orders. -/
theorem averageCommutes : Obligations.AverageCommutes := by
  intro s x y hrule
  have formula : ∀ u v, s.avg (.b32 u) (.b32 v) = .b32 (avgComplex u v) := fun u v => by
    rw [State.avg, hrule, averageBy_halfOfSum]
  refine ⟨formula x y, fun hre him => ?_⟩
  rw [formula, formula, avgComplex, avgComplex, avg32_comm hre, avg32_comm him]

/-! Exactness. -/

theorem add32_exact {a b d : B32} (ha : f32IsFinite a = true) (hb : f32IsFinite b = true) (hd : f32IsFinite d = true)
    (h : f32Units a + f32Units b = f32Units d) :
    f32IsFinite (add32 a b) = true ∧ f32Units (add32 a b) = f32Units d := by
  rw [add32_of_no_inf (f32SumIsNan_of_finite ha hb) (f32IsInf_of_finite ha) (f32IsInf_of_finite hb), h]
  by_cases h0 : f32Units d = 0
  · rw [if_pos h0, h0]
    exact f32Pack_zero _
  · have sum : f32Round (f32Units d < 0) (f32Units d).natAbs 0 = d := by
      rw [natAbs_f32Units, ← f32Sign_of_units h0]
      simpa using f32Round_mag hd (f32Sign d) 0
    rw [if_neg h0, sum]
    exact ⟨hd, rfl⟩

theorem mul32_half_exact {d c : B32} (hd : f32IsFinite d = true) (hc : f32IsFinite c = true)
    (h : f32Units d = 2 * f32Units c) :
    f32IsFinite (mul32 f32Half d) = true ∧ f32Units (mul32 f32Half d) = f32Units c := by
  have half : f32Mag f32Half = 2 ^ 148 := by decide
  have mag : f32Mag d = 2 * f32Mag c := by rw [← natAbs_f32Units, ← natAbs_f32Units, h, Int.natAbs_mul]; rfl
  have product : f32Mag f32Half * f32Mag d = f32Mag c * 2 ^ 149 := by rw [half, mag]; ring
  have sign : (f32Sign f32Half != f32Sign d) = f32Sign d := Bool.false_bne _
  rw [mul32_of_finite (by decide) hd, product, sign, f32Round_mag hc]
  refine ⟨by rw [f32IsFinite_withSign, hc], f32Units_withSign fun h0 => ?_⟩
  rw [f32Sign_of_units h0, f32Sign_of_units (by omega), decide_eq_decide]
  omega

/-- Settles O59: neither the sum nor its half is rounded. -/
theorem averageIsExact : Obligations.AverageIsExact := by
  intro a b c d ha hb hc hd hsum hhalf
  obtain ⟨finite, units⟩ := add32_exact ha hb hd hsum
  exact mul32_half_exact finite hc (units.trans hhalf)

/-! Operands that are no finite numbers. -/

theorem add32_not_finite {a b : B32} (h : f32IsFinite a = false ∨ f32IsFinite b = false) :
    f32IsFinite (add32 a b) = false := by
  cases number : f32SumIsNan a b with
  | true => rw [add32_of_nan number, f32IsFinite_eq_false_iff.2 (.inl (f32IsNan_nanOf _))]
  | false =>
    have inf : f32IsInf a = true ∨ f32IsInf b = true := by
      rw [f32IsFinite_eq_false_iff, f32IsFinite_eq_false_iff] at h
      simp_all [f32SumIsNan]
    obtain ha | hb := inf
    · rw [add32_of_inf_left number ha, f32IsFinite_eq_false_iff.2 (.inr ha)]
    · rw [add32_of_inf_right number hb, f32IsFinite_eq_false_iff.2 (.inr hb)]

theorem mul32_not_finite {a b : B32} (h : f32IsFinite a = false ∨ f32IsFinite b = false) :
    f32IsFinite (mul32 a b) = false := by
  rw [f32IsFinite_eq_false_iff, f32IsFinite_eq_false_iff] at h
  rw [f32IsFinite_eq_false_iff, mul32]
  split_ifs with hnan hinf
  · exact .inl (f32IsNan_nanOf _)
  · exact .inr (f32IsInf_inf _)
  · simp_all

/-- Settles O60: neither the sum nor its half is a finite number. -/
theorem nonFiniteOperandsStayNonFinite : Obligations.NonFiniteOperandsStayNonFinite := fun _ _ h =>
  mul32_not_finite (.inr (add32_not_finite h))

end Sys2Proof.Machine
end

section
/-! The commit phases by themselves (spec/45_commit_and_tags.md R132 to R135). -/

namespace Sys2Proof.Machine

/-- The records that survive the consumption of `n` samples, chosen and moved in one pass (R59). -/
theorem rebaseTags_eq_filterMap (n : Nat) (ts : List TagRec) :
    rebaseTags n ts = ts.filterMap fun t => if t.index < n then none else some { t with index := t.index - n } := by
  rw [rebaseTags, ← List.filterMap_eq_map, List.filterMap_filter]
  refine List.filterMap_congr fun t _ => ?_
  by_cases gone : t.index < n
  · simp [gone]
  · simp [gone, Nat.not_lt.1 gone]

/-- Settles O37: `CONSUME(64*L)`, with its records chosen and moved in one pass. -/
theorem consumeRebases : Obligations.ConsumeRebases := by
  intro s j hj hin
  rw [← rebaseTags_eq_filterMap]
  exact execConsume_complete hj hin

/-- Settles O38: the offset 0 is the stream position of the burst's first sample. -/
theorem tagoutMarksBurst : Obligations.TagoutMarksBurst := fun _ _ => execTagout_complete

theorem firstCells_getElem? {s : State} {n i : Nat} (h : i < n) : (s.firstCells n)[i]? = some (s.cell i) := by
  rw [State.firstCells, List.getElem?_map, List.getElem?_range h, Option.map_some]

/-- Settles O39: what is appended is the first `req_out` cells of the window. -/
theorem produceAppendsBurst : Obligations.ProduceAppendsBurst := fun s j hj hout =>
  ⟨s.firstCells (s.reqOut j.count), execProduce_complete hj hout, s.firstCells_length _, fun _ hi =>
    firstCells_getElem? (hi.trans_eq (s.firstCells_length _))⟩

/-- Settles O40: the end is signalled where `E` and `R` are both set. -/
theorem eodchkSignalsLastBurst : Obligations.EodchkSignalsLastBurst := by
  refine fun s j hj => ⟨fun he hr => ?_, fun hnot => ?_⟩
  · have last : (j.e && j.r) = true := by rw [he, hr]; rfl
    exact (execEodchk_complete hj).trans (by rw [last]; rfl)
  · have more : (j.e && j.r) = false := by rwa [← Bool.not_eq_true, Bool.and_eq_true]
    exact (execEodchk_complete hj).trans (by rw [more]; rfl)

end Sys2Proof.Machine
end

section
/-! What a selected operation signals to the consumer (spec/45_commit_and_tags.md R137 to R139): the end of the stream, and one
record per burst. -/

namespace Sys2Proof.Machine

@[simp] theorem State.signalled_outFin (s : State) (last : Bool) : (s.signalled last).outFin = (s.outFin || last) := by
  cases last <;> simp [State.signalled]

@[simp] theorem State.signalled_outTags (s : State) (last : Bool) : (s.signalled last).outTags = s.outTags := by
  cases last <;> rfl

@[simp] theorem State.signalled_outPos (s : State) (last : Bool) : (s.signalled last).outPos = s.outPos := by
  cases last <;> rfl

@[simp] theorem State.committed_outFin (s : State) (count : Nat) (m : Memory) :
    (s.committed count m).outFin = s.outFin := rfl

/-- An emission sets `OUT_FIN` where both `E` and `R` hold, and never clears it (R135). -/
theorem emission_outFin {e r : Bool} {s t : State} (h : emission e r s = .next t) : t.outFin = (s.outFin || (e && r)) := by
  obtain ⟨k, m, -, rfl⟩ := emission_next h
  simp

/-- Of the rows that emit, `EMIT_FIN` alone has both `E` and `R` in its word (R69). -/
theorem exec_emits_outFin {i : Instr} {s t : State} (hi : emits i = true) (h : exec i s = .next t) :
    t.outFin = true ↔ s.outFin = true ∨ i = .emitFin := by
  match i, hi with
  | .emit r, _ => simp [emission_outFin (e := false) h]
  | .emitEod, _ => simp [emission_outFin (e := true) (r := false) h]
  | .emitFin, _ => simp [emission_outFin (e := true) (r := true) h]

/-- `OUT_FIN` after an operation selected between emissions: set before, or set by `FINISH` or `EMIT_FIN` (R139). -/
theorem outFin_iff_of_operation {s t : State} {i : Instr} (hj : s.job = none) (hop : s.operation = .next i)
    (h : exec i s = .next t) : t.outFin = true ↔ s.outFin = true ∨ i = .finish ∨ i = .emitFin := by
  obtain ⟨j, hsome, -⟩ | ⟨-, hd⟩ | ⟨-, -, -, hd⟩ := operation_cases hop
  · simp [hj] at hsome
  · obtain ⟨b, rfl | rfl⟩ := decodeStatus_ok hd <;> (cases h; simp)
  · obtain (rfl | ⟨a, b, rfl | rfl⟩) | rfl | ⟨e, rfl, -⟩ | hi := decodeCond_ok hd
    · cases h; simp
    · cases h; simp
    · cases h; simp
    · cases h; simp
    · obtain ⟨k, -, rfl⟩ := execFault_next h
      simp
    · have not_finish : i ≠ .finish := by rintro rfl; cases hi
      simp [exec_emits_outFin hi h, not_finish]

/-- Settles O50: both directions of `outFin_iff_of_operation`. -/
theorem finishedComesFromTwoOperations : Obligations.FinishedComesFromTwoOperations := by
  intro s t i hj hop h
  have outFin := outFin_iff_of_operation hj hop h
  exact ⟨fun before after => (outFin.1 after).resolve_left (by simp [before]), fun hi => outFin.2 (.inr hi)⟩

/-- A burst is never empty: the preamble alone has 320 samples (R77). -/
theorem reqOut_pos (s : State) (count : Nat) : 0 < s.reqOut count := Nat.succ_pos _

/-- An emission marks its first sample with the number of samples it produces (R134, R137). -/
theorem emission_marks_burst {e r : Bool} {s t : State} (h : emission e r s = .next t) :
    t.outTags = s.outTags ++ [{ index := s.outPos, kind := .burstBoundary, value := t.outPos - s.outPos }] ∧
      s.outPos < t.outPos := by
  obtain ⟨k, m, -, rfl⟩ := emission_next h
  simp [reqOut_pos]

theorem outTags_of_not_emits {s t : State} {i : Instr} (hj : s.job = none) (hop : s.operation = .next i)
    (h : exec i s = .next t) (hi : emits i = false) : t.outTags = s.outTags := by
  obtain rfl | rfl | ⟨c, n, rfl⟩ := exec_of_not_emits hj hop h hi <;> rfl

/-- Settles O51: the record of the emission, and no record without one. -/
theorem oneBoundaryPerBurst : Obligations.OneBoundaryPerBurst := by
  refine fun s t i hj hop h => ⟨fun hi => ?_, fun changed => ?_⟩
  · obtain ⟨e, r, hexec⟩ := exec_of_emits hi s
    exact emission_marks_burst (hexec ▸ h)
  · by_contra hi
    exact changed (outTags_of_not_emits hj hop h (Bool.eq_false_of_not_eq_true hi))

end Sys2Proof.Machine
end

section
/-! The fault entry (spec/60_exceptions.md R142, R149), and why there is no way back from it (R151, R152): in a terminal state the
framer writes nothing, and what the host may do short of a construction touches the two windows only. -/

namespace Sys2Proof.Machine

/-- Settles O17: `STATUS` was 0, so that setting `FLT` makes it 10; the rest is the fault entry on the selected marker. -/
theorem faultRecordsMisplacedMarker : Obligations.FaultRecordsMisplacedMarker := by
  intro s t hs ht hi
  refine ⟨operation_of_misplaced hs ht hi, fun e => ?_⟩
  have flt_only : s.status ||| 2#2 = 0b10#2 := by rw [hs.status]; rfl
  rw [← flt_only]
  exact withMarker_some ht.sel _

/-- In a terminal state an invocation answers the same state (R91). -/
theorem invoke_of_terminal {s : State} (hj : s.job = none) (hterm : s.fin = true ∨ s.flt = true) : invoke s = .next s := by
  obtain ⟨i, hop, -, hexec⟩ := terminalInvocationWritesNothing s hj hterm
  rw [invoke_of_operation hop, hexec]

/-- `s` after the host has changed what it offers: the input window with its records and `IN_EOD`, and the output window (R63). -/
def State.offered (s : State) (inn : List Sample) (inTags : List TagRec) (inEod : Bool) (outCap : Nat) (out : Memory) : State :=
  { s with inn := inn, inTags := inTags, inEod := inEod, outCap := outCap, out := out }

/-- A host step that constructs nothing is an invocation, or changes what the host offers. -/
theorem hostStep_offers {a : HostStep} {s t : State} (ha : ∀ p pt, a ≠ .construct p pt) (h : hostStep a s = .next t) :
    invoke s = .next t ∨ ∃ inn inTags inEod outCap out, t = s.offered inn inTags inEod outCap out := by
  cases a with
  | push xs ts => obtain ⟨-, -, -, rfl⟩ := hostPush_eq_next.1 h; exact .inr ⟨_, _, _, _, _, rfl⟩
  | eod => cases h; exact .inr ⟨_, _, _, _, _, rfl⟩
  | cap c => obtain ⟨-, rfl⟩ := hostCap_eq_next.1 h; exact .inr ⟨_, _, _, _, _, rfl⟩
  | invoke => exact .inl h
  | construct p pt => exact absurd rfl (ha p pt)
  | fill a xs => obtain ⟨-, rfl⟩ := hostFill_eq_next.1 h; exact .inr ⟨_, _, _, _, _, rfl⟩

/-- From a terminal state, with no construction to come, a step shortens the agenda and changes what the host offers, at most. -/
theorem step_of_terminal {s t : State} (hj : s.job = none) (hterm : s.fin = true ∨ s.flt = true)
    (hc : ∀ p pt, HostStep.construct p pt ∉ s.agenda) (h : step s = .next t) :
    ∃ rest inn inTags inEod outCap out, rest ⊆ s.agenda ∧ t = (s.withAgenda rest).offered inn inTags inEod outCap out := by
  obtain h | ⟨a, rest, -, ha, h⟩ := step_cases h
  · cases (invoke_of_terminal hj hterm).symm.trans h
    exact ⟨_, _, _, _, _, _, List.Subset.refl _, rfl⟩
  · have shorter : rest ⊆ s.agenda := ha ▸ List.subset_cons_self a rest
    have no_construct : ∀ p pt, a ≠ .construct p pt := by
      rintro p pt rfl
      exact hc p pt (ha ▸ List.mem_cons_self)
    obtain h | ⟨_, _, _, _, _, rfl⟩ := hostStep_offers no_construct h
    · cases (invoke_of_terminal (s := s.withAgenda rest) hj hterm).symm.trans h
      exact ⟨_, _, _, _, _, _, shorter, rfl⟩
    · exact ⟨_, _, _, _, _, _, shorter, rfl⟩

/-- `t` is a later state of a run that was `FAULTED` at `s` and has no construction to come: the fault and the output stand. -/
structure State.StaysFaulted (s t : State) : Prop where
  inv : t.Inv
  flt : t.flt = true
  agenda : ∀ p pt, HostStep.construct p pt ∉ t.agenda
  info : t.fltInfo = s.fltInfo
  ostream : t.ostream = s.ostream
  outTags : t.outTags = s.outTags

/-- A step from `FAULTED` changes the agenda and what the host offers only, so that the fault and the output stand. -/
theorem staysFaulted_step {s t u : State} (h : s.StaysFaulted t) (hstep : step t = .next u) : s.StaysFaulted u := by
  have inv : u.Inv := stepKeepsInvariant t u h.inv hstep
  obtain ⟨rest, _, _, _, _, _, shorter, rfl⟩ := step_of_terminal h.inv.between (.inr h.flt) h.agenda hstep
  exact { h with inv := inv, agenda := fun p pt hmem => h.agenda p pt (shorter hmem) }

/-- The two bits of `STATUS` are not both set (R38). -/
theorem State.Inv.fin_of_flt {s : State} (h : s.Inv) (hflt : s.flt = true) : s.fin = false :=
  Bool.eq_false_of_not_eq_true fun hfin => h.status ⟨hfin, hflt⟩

theorem fsm_of_flt {s : State} (hfin : s.fin = false) (hflt : s.flt = true) : s.fsm = some .faulted := by
  rw [State.fsm, hfin, hflt]

/-- Settles O53: every step of the run keeps `State.StaysFaulted`, and the invariant gives `FIN = OUT_FIN = 0`. -/
theorem faultedIsAbsorbing : Obligations.FaultedIsAbsorbing := by
  intro n s t hinv hflt hc h
  have stays : s.StaysFaulted t :=
    runSteps_keeps s.StaysFaulted (fun _ _ => staysFaulted_step) n ⟨hinv, hflt, hc, rfl, rfl, rfl⟩
      ((core_run_eq n s).symm.trans h)
  have hfin : t.fin = false := stays.inv.fin_of_flt stays.flt
  exact ⟨fsm_of_flt hfin stays.flt, operation_of_flt stays.inv.between hfin stays.flt, stays.inv.finished ▸ hfin,
    stays.info, stays.ostream, stays.outTags⟩

end Sys2Proof.Machine
end

section
/-! Construction, the only reset (spec/70_reset_and_hazards.md R159, R162). -/

namespace Sys2Proof.Machine

theorem fsm_of_running {s : State} (h : Running s) : s.fsm = some .run := by
  rw [State.fsm, h.fin, h.flt]

/-- Settles O57: the step answers the constructed state, whose fields are the values of R37. -/
theorem constructionResets : Obligations.ConstructionResets := by
  intro s rest p pt hj ha hp hpt
  have constructs : step s = .next ((s.withAgenda rest).constructed p pt) :=
    (step_host hj ha).trans (hostConstruct_eq_next.2 ⟨⟨hp, hpt⟩, rfl⟩)
  have run : Running ((s.withAgenda rest).constructed p pt) :=
    ⟨by simp [State.fin, State.constructed], by simp [State.flt, State.constructed], rfl⟩
  exact ⟨_, constructs, rfl, rfl, fsm_of_running run, rfl, rfl, rfl, rfl, rfl, rfl, rfl, rfl, rfl, rfl, rfl, rfl, rfl,
    memRead_nil⟩

end Sys2Proof.Machine
end

section
/-! Hazards of the interface (spec/70_reset_and_hazards.md R168 to R176): an invocation without effect repeats itself, a burst cut
short by the end of data waits for ever, and the last burst framed hides a shorter one behind it. -/

namespace Sys2Proof.Machine

/-- Where an invocation answers the same state, a host that only invokes sees that state for ever. -/
theorem core_run_of_invoke_fixed {s : State} (hj : s.job = none) (ha : s.agenda = []) (h : invoke s = .next s) (n : Nat) :
    Host.Core.run core n s = .next s := by
  rw [core_run_eq]
  exact runSteps_fixed ((step_invoke hj ha).trans h) n

/-- Settles O52: the selected operation has no effect, so that it is selected again. -/
theorem spuriousInvocationsAreHarmless : Obligations.SpuriousInvocationsAreHarmless := by
  intro s i n hj ha hop hi
  have same : invoke s = .next s := by rw [invoke_of_operation hop, noEffectOperationsComplete s i hi]
  exact core_run_of_invoke_fixed hj ha same n

/-! A burst truncated by the end of data. -/

/-- The burst of `m` stands at the front of the window, not all of its input is there, and no more will come (R168). -/
structure Truncated (s : State) (m : TagRec) : Prop where
  running : Running s
  marked : Marked s m
  front : m.index = 0
  short : s.inLen < reqIn m.value
  eod : s.inEod = true

theorem Truncated.operation {s : State} {m : TagRec} (h : Truncated s m) :
    s.operation = .next (.waitIn true (s.outputSuffices m.value)) := by
  rw [operation_of_short_input h.running h.marked h.front h.short, h.eod]

theorem Truncated.invoke_fixed {s : State} {m : TagRec} (h : Truncated s m) : invoke s = .next s :=
  invoke_of_operation h.operation

/-- `s` with other host steps to come and another output window offered (R63). -/
def State.reoffered (s : State) (steps : List HostStep) (outCap : Nat) (out : Memory) : State :=
  (s.withAgenda steps).offered s.inn s.inTags s.inEod outCap out

/-- Neither what the host will do nor the output window has a part in it. -/
theorem Truncated.reoffered {s : State} {m : TagRec} (h : Truncated s m) (steps : List HostStep) (outCap : Nat)
    (out : Memory) : Truncated (s.reoffered steps outCap out) m where
  running := ⟨h.running.fin, h.running.flt, h.running.job⟩
  marked := ⟨h.marked.sel, h.marked.count, h.marked.fits⟩
  front := h.front
  short := h.short
  eod := h.eod

/-- After the end of data a host step that constructs nothing is an invocation, or offers another output window. -/
theorem hostStep_after_eod {a : HostStep} {s t : State} (heod : s.inEod = true) (ha : ∀ p pt, a ≠ .construct p pt)
    (h : hostStep a s = .next t) : invoke s = .next t ∨ ∃ outCap out, t = s.reoffered s.agenda outCap out := by
  cases a with
  | push xs ts => exact absurd h (by simp [hostStep, hostPush_after_eod heod])
  | eod => cases h; exact .inr ⟨s.outCap, s.out, by rw [← heod]; rfl⟩
  | cap c => obtain ⟨-, rfl⟩ := hostCap_eq_next.1 h; exact .inr ⟨_, _, rfl⟩
  | invoke => exact .inl h
  | construct p pt => exact absurd rfl (ha p pt)
  | fill a xs => obtain ⟨-, rfl⟩ := hostFill_eq_next.1 h; exact .inr ⟨_, _, rfl⟩

/-- With a truncated burst and no construction to come, a step shortens the agenda and changes the output window, at most. -/
theorem Truncated.step_reoffers {s t : State} {m : TagRec} (h : Truncated s m)
    (hc : ∀ p pt, HostStep.construct p pt ∉ s.agenda) (hstep : step s = .next t) :
    ∃ rest outCap out, rest ⊆ s.agenda ∧ t = s.reoffered rest outCap out := by
  obtain hinv | ⟨a, rest, -, ha, hhost⟩ := step_cases hstep
  · cases h.invoke_fixed.symm.trans hinv
    exact ⟨_, _, _, List.Subset.refl _, rfl⟩
  · have shorter : rest ⊆ s.agenda := ha ▸ List.subset_cons_self a rest
    have no_construct : ∀ p pt, a ≠ .construct p pt := by
      rintro p pt rfl
      exact hc p pt (ha ▸ List.mem_cons_self)
    have waits : Truncated (s.withAgenda rest) m := h.reoffered rest s.outCap s.out
    obtain hinv | ⟨outCap, out, rfl⟩ := hostStep_after_eod waits.eod no_construct hhost
    · cases waits.invoke_fixed.symm.trans hinv
      exact ⟨_, _, _, shorter, rfl⟩
    · exact ⟨_, _, _, shorter, rfl⟩

/-- Settles O54: every step of the run changes the agenda and the output window at most, so that the burst stays truncated. -/
theorem truncatedBurstNeverFinishes : Obligations.TruncatedBurstNeverFinishes := by
  intro n s t m hs hm hi hin heod hc hrun
  have start : Truncated s m := ⟨hs, hm, hi, hin, heod⟩
  obtain ⟨rest, outCap, out, -, rfl⟩ : ∃ rest outCap out, rest ⊆ s.agenda ∧ t = s.reoffered rest outCap out := by
    refine runSteps_keeps (fun u => ∃ rest outCap out, rest ⊆ s.agenda ∧ u = s.reoffered rest outCap out) ?_ n
      ⟨s.agenda, s.outCap, s.out, List.Subset.refl _, rfl⟩ ((core_run_eq n s).symm.trans hrun)
    rintro _ v ⟨rest, outCap, out, hrest, rfl⟩ hstep
    obtain ⟨rest', outCap', out', hrest', rfl⟩ :=
      (start.reoffered rest outCap out).step_reoffers (fun p pt hmem => hc p pt (hrest hmem)) hstep
    exact ⟨rest', outCap', out', List.Subset.trans hrest' hrest, rfl⟩
  have stays := start.reoffered rest outCap out
  exact ⟨fsm_of_running stays.running, ⟨_, stays.operation⟩, rfl, rfl, rfl, rfl⟩

/-! The last burst framed, and what stands behind it. -/

/-- A record behind the samples consumed survives, at its new index (R59). -/
theorem rebased_mem {n : Nat} {ts : List TagRec} {t : TagRec} (h : t ∈ ts) (hn : n ≤ t.index) :
    { t with index := t.index - n } ∈ rebaseTags n ts :=
  List.mem_map_of_mem (f := fun t : TagRec => { t with index := t.index - n })
    (List.mem_filter.2 ⟨h, decide_eq_true hn⟩)

/-- At the end of data, with less behind the burst than the burst itself, the invocation frames it and signals the end (R97). -/
theorem invoke_of_last_burst {s : State} {t : TagRec} (hs : Running s) (ht : Emittable s t) (heod : s.inEod = true)
    (hlast : s.inLen < 128 * t.value) : invoke s = .next ((s.emitted t.value).signalled true) := by
  have hop : s.operation = .next .emitFin := by
    rw [operation_of_gate hs ht.marked ht.index ht.input ht.output, if_pos heod, if_pos hlast]
  rw [invoke_of_operation hop]
  exact emission_of_emittable ht true true

theorem fsm_of_fin {s : State} (hfin : s.fin = true) (hflt : s.flt = false) : s.fsm = some .done := by
  rw [State.fsm, hfin, hflt]

/-- Settles O55: the framer is `DONE` with the first burst, and the second one stands where the first one stood. -/
theorem earlyFinishDropsShorterBurst : Obligations.EarlyFinishDropsShorterBurst := by
  intro s a b n hs hagenda ha heod hb _ hidx hlen hshort
  have frames := invoke_of_last_burst hs ha heod (by omega)
  have fin : ((s.emitted a.value).signalled true).fin = true := State.setFin_fin _
  have flt : ((s.emitted a.value).signalled true).flt = false := (State.setFin_flt _).trans hs.flt
  have front : { b with index := 0 } ∈ rebaseTags (64 * a.value) s.inTags := by
    simpa [hidx] using rebased_mem hb hidx.ge
  have left : (s.inn.drop (64 * a.value)).length = 64 * b.value := by
    rw [List.length_drop, ← State.inLen, hlen, Nat.add_sub_cancel_left]
  have rests := core_run_of_invoke_fixed (s := (s.emitted a.value).signalled true) rfl hagenda
    (invoke_of_terminal rfl (.inl fin)) n
  exact ⟨_, (step_invoke hs.job hagenda).trans frames, fsm_of_fin fin flt, rfl, rfl, front, rfl, left, rests⟩

end Sys2Proof.Machine
end
